-- ==== Sys2Proof/Word.lean ====
section
/-! DEFINITION. The byte, the unit of every frame and every table image. -/

namespace Sys2Proof

/-- One byte of a frame, a payload or a table image (R1, R2). -/
abbrev Byte := BitVec 8

/-- The largest value of a 32-bit saturating quantity: counters (R176), characteristic functions (R53). -/
def max32 : Nat := 4294967295

/-- The largest value of a 48-bit window sum (R87). -/
def max48 : Nat := 281474976710655

end Sys2Proof
end

