-- ==== Sys2Proof/Config.lean ====
section
/-! DEFINITION. What the part fixes once (the capacities its rules name) and the one value its rules leave open. -/

namespace Sys2Proof.Config

/-- Depth of the Forward Queue (R13). -/
def forwardDepth : Nat := 8

/-- Depth of the Upstream Queue (R14). -/
def upstreamDepth : Nat := 4

/-- Depth of the Reply Queue (R162). -/
def replyDepth : Nat := 4

/-- Depth of the Arrival Queue (R132). -/
def arrivalDepth : Nat := 32

/-- Capacity of one alignment buffer (R28). -/
def bufferDepth : Nat := 128

/-- Entries of one Band History ring (R71). -/
def ringDepth : Nat := 128

/-- Milliseconds after which a byte timer has expired for certain (R12: more than 4 ms have passed). -/
def byteTimeoutMs : Nat := 5

/-- The triad index counts from 0 to 2^48 − 1 (R33). -/
def triadIndexEnd : Nat := 281474976710656

/-- The index after 2^48 − 1, which R33 does not state: a free value (log entry 16). DESIGN CHOICE. -/
opaque triadIndexPastEnd : Nat → Nat

end Sys2Proof.Config
end

