-- ==== Sys2Proof/Syntax.lean ====
section
/-! DEFINITION. The commands: one constructor for each row of the table of operations and events. -/

namespace Sys2Proof

/-- The two ports: the Sensor port and the Logger port (spec file 00, electrical summary). -/
inductive Port where
  | sp
  | lp
deriving DecidableEq, Repr

/-- A component, or a stream of the Channel Map before the horizontal swap (R20). -/
inductive Comp where
  | z
  | n
  | e
deriving DecidableEq, Repr

/-- A byte's stop bit and the line behind it (R1): high; low, with the line high again behind the byte, for however short
a time; or low, with the line still low. -/
inductive StopBit where
  | high
  | low
  | stillLow
deriving DecidableEq, Repr

/-- The commands, in the table's order. The payload of a command frame is `tag`, the row's code, `params`. -/
inductive Instr where
  /-- FULL_RESET (R17): RESET_N low or power-up, with the RATE_SEL straps sampled (R1). -/
  | fullReset (straps : BitVec 2)
  /-- RX_BYTE (R10): a byte on a port's receive line, its stop bit with the line behind it, and whether the line had
  been high for at least one bit time before it (R1). -/
  | rxByte (port : Port) (byte : Byte) (stop : StopBit) (wasHigh : Bool)
  /-- FRAME_RECEIVED (R11). -/
  | frameReceived (port : Port)
  /-- BYTE_TIMEOUT (R12). -/
  | byteTimeout (port : Port)
  /-- SAMPLE_COPY_TAKEN (R25). -/
  | sampleCopyTaken
  /-- MALFORMED_NOTICE_TAKEN (R29). -/
  | malformedNoticeTaken
  /-- STALL_TIMER_EXPIRY (R36), of the channel mapped as the stream named. -/
  | stallTimerExpiry (stream : Comp)
  /-- TRIAD_ISSUE (R34). -/
  | triadIssue
  /-- FILTER_TRIAD (R40). -/
  | filterTriad
  /-- DETECTOR_TRIAD (R64). -/
  | detectorTriad
  /-- ENGINE_TRIAD (R98). -/
  | engineTriad
  /-- GAP_NOTICE_FILTER (R47). -/
  | gapNoticeFilter
  /-- GAP_NOTICE_DETECTOR (R55). -/
  | gapNoticeDetector
  /-- GAP_NOTICE_ENGINE (R117). -/
  | gapNoticeEngine
  /-- RESTART_FILTER (R48). -/
  | restartFilter
  /-- RESTART_DETECTOR (R55). -/
  | restartDetector
  /-- RESTART_ENGINE (R118). -/
  | restartEngine
  /-- COMMIT_WAIT_EXPIRY (R154). -/
  | commitWaitExpiry
  /-- NOISE_TIMER_EXPIRY (R178). -/
  | noiseTimerExpiry
  /-- UPSTREAM_FRAME_START (R14). -/
  | upstreamFrameStart
  /-- UPSTREAM_FRAME_SENT (R14). -/
  | upstreamFrameSent
  /-- EGRESS_CHOICE (R15). -/
  | egressChoice
  /-- EGRESS_FRAME_SENT (R16), with the straps as they stand, sampled when a full reset follows (R172). -/
  | egressFrameSent (straps : BitVec 2)
  /-- COMMAND_UNDECODED (R160): a command frame with no tag, a tag alone or an unknown code. -/
  | commandUndecoded (payload : List Byte)
  /-- ECHO (R163). -/
  | echo (tag : Byte) (params : List Byte)
  /-- STATUS_READ (R164). -/
  | statusRead (tag : Byte) (params : List Byte)
  /-- FLAGS_CLEAR (R165). -/
  | flagsClear (tag : Byte) (params : List Byte)
  /-- ATTENTION_MASK (R166). -/
  | attentionMask (tag : Byte) (params : List Byte)
  /-- TABLE_WRITE (R142). -/
  | tableWrite (tag : Byte) (params : List Byte)
  /-- TABLE_READ (R143). -/
  | tableRead (tag : Byte) (params : List Byte)
  /-- TABLES_COMMIT (R144, R148). -/
  | tablesCommit (tag : Byte) (params : List Byte)
  /-- COMMIT_CANCEL (R155). -/
  | commitCancel (tag : Byte) (params : List Byte)
  /-- MAP_GUARD (R156). -/
  | mapGuard (tag : Byte) (params : List Byte)
  /-- EGRESS_MODE (R167). -/
  | egressMode (tag : Byte) (params : List Byte)
  /-- ARRIVALS_FLUSH (R137). -/
  | arrivalsFlush (tag : Byte) (params : List Byte)
  /-- REPORT_INTERVAL (R168). -/
  | reportInterval (tag : Byte) (params : List Byte)
  /-- PICKER_RESTART (R169). -/
  | pickerRestart (tag : Byte) (params : List Byte)
  /-- PART_RESET (R171). -/
  | partReset (tag : Byte) (params : List Byte)
deriving DecidableEq, Repr

end Sys2Proof
end

