-- ==== Sys2Proof/Machine/State.lean ====
section
/-! DEFINITION. The part's state, block by block, as plain data, with its value after a full reset. -/

namespace Sys2Proof.Machine

/-- The reasons for which a command stops with a fault: none. Every input has an outcome in the spec, so no command
raises a fault (log entry 24). -/
inductive Fault where
deriving DecidableEq, Repr

/-- The reasons for which the model refuses a command. -/
inductive Refusal where
  /-- No meaning yet for the command named. Raised by no command of this model. Safe: the run stops. -/
  | notModelled (mnemonic : String)
deriving DecidableEq, Repr

/-! ### Names and small containers -/

/-- The three bands (spec file 00, terms of art). -/
inductive Band where
  | b0
  | b1
  | b2
deriving DecidableEq, Repr

/-- V watches the vertical component, H the two horizontals together (spec file 00). -/
inductive Kind where
  | v
  | h
deriving DecidableEq, Repr

/-- The six detectors, in the order of R65. -/
inductive Det where
  | v0
  | h0
  | v1
  | h1
  | v2
  | h2
deriving DecidableEq, Repr

/-- The four tables (R141), by number (R182). -/
inductive Table where
  | chan
  | band
  | prof
  | rules
deriving DecidableEq, Repr

/-- One value for each of Z, N and E. -/
structure PerComp (α : Type) where
  z : α
  n : α
  e : α
deriving DecidableEq, Repr

/-- One value for each band. -/
structure PerBand (α : Type) where
  b0 : α
  b1 : α
  b2 : α
deriving DecidableEq, Repr

/-- One value for each detector. -/
structure PerDet (α : Type) where
  v0 : α
  h0 : α
  v1 : α
  h1 : α
  v2 : α
  h2 : α
deriving DecidableEq, Repr

/-- One value for each table. -/
structure PerTable (α : Type) where
  chan : α
  band : α
  prof : α
  rules : α
deriving DecidableEq, Repr

/-! ### Framers, queues and lines -/

/-- Whether a framer trusts the end of the last frame (R8). -/
inductive Lock where
  | hunt
  | locked
deriving DecidableEq, Repr

/-- One framer with its receiver (R8; `waitHigh` is R1's wait for a high line after a byte behind which it is still low). -/
structure Framer where
  lock : Lock
  run : Nat
  held : List Byte
  /-- Stopped, or the whole milliseconds since the latest byte (R12). -/
  timer : Option Nat
  waitHigh : Bool
deriving DecidableEq, Repr

/-- Where a frame on a transmit line came from (R15; `upstream` is SP_TXD's one source, R14). -/
inductive Source where
  | forward
  | reply
  | report
  | arrival
  | upstream
deriving DecidableEq, Repr

/-- The frame on a transmit line: its bytes, its source, whether the pending-reset mark names it (R16, R171), and the
milliseconds since it was started, which tell how many of its bytes have been sent (log entry 17). -/
structure TxFrame where
  bytes : List Byte
  source : Source
  resets : Bool
  ms : Nat
deriving DecidableEq, Repr

/-- The straps as last sampled, the Forward and Upstream Queues and the two transmit lines (R1, R13, R14, R15). -/
structure Link where
  rate : BitVec 2
  forwardQ : List (List Byte)
  upstreamQ : List (List Byte)
  lpLine : Option TxFrame
  spLine : Option TxFrame
deriving DecidableEq, Repr

/-! ### Triad Assembler -/

/-- A copy of a well-formed SAMPLE frame of a mapped channel (R5), its samples still as received. -/
structure SampleCopy where
  channel : Byte
  rate : Nat
  start : Nat
  samples : List Int
deriving DecidableEq, Repr

/-- What the Sensor Port Framer hands to the assembler (R5). -/
inductive AsmItem where
  | copy (c : SampleCopy)
  | malformed (channel : Byte)
deriving DecidableEq, Repr

/-- A treated sample with its clip mark (R21). -/
structure Sample where
  value : Int
  clip : Bool
deriving DecidableEq, Repr

/-- One entry of an alignment buffer (R22). -/
structure Slot where
  time : Nat
  value : Int
  clip : Bool
  bridged : Bool
deriving DecidableEq, Repr

/-- The continuity record of an anchored component: its expected time E and its last accepted sample (R22). -/
structure Anchor where
  expected : Nat
  last : Sample
deriving DecidableEq, Repr

/-- A component's continuity record (absent while unanchored) and alignment buffer, oldest first (R22). -/
structure CompState where
  anchor : Option Anchor
  buffer : List Slot
deriving DecidableEq, Repr

/-- UNSYNCED, or ALIGNED with the index of the next triad and the alignment time (R33). -/
inductive AsmPhase where
  | unsynced
  | aligned (index alignTime : Nat)
deriving DecidableEq, Repr

/-- A mapped channel's stall timer, stopped or in milliseconds, and its awaited mark (R36). -/
structure Stall where
  timer : Option Nat
  awaited : Bool
deriving DecidableEq, Repr

structure Assembler where
  /-- Copies and notices handed over and not yet taken (log entry 8). -/
  inbox : List AsmItem
  phase : AsmPhase
  comps : PerComp CompState
  /-- By the stream of the Channel Map. -/
  stall : PerComp Stall
deriving DecidableEq, Repr

/-! ### Picking: triads, filters, detectors -/

/-- One component's part of a triad (R34). -/
structure TriadSample where
  value : Int
  clip : Bool
  bridged : Bool
deriving DecidableEq, Repr

/-- A triad with its index and time (R34). -/
structure Triad where
  index : Nat
  time : Nat
  samples : PerComp TriadSample
deriving DecidableEq, Repr

/-- A gap notice (R31) or a picker restart (R170). -/
inductive NoticeKind where
  | gap
  | restart
deriving DecidableEq, Repr

/-- A notice on its way to a block, and how many triads issued before it the block has yet to finish (R31, R170). -/
structure Notice where
  kind : NoticeKind
  ahead : Nat
deriving DecidableEq, Repr

/-- The memory of one biquad section (R41). -/
structure Section where
  x1 : Int
  x2 : Int
  y1 : Int
  y2 : Int
deriving DecidableEq, Repr

/-- The two sections of one component of one band (R44). -/
structure Cascade where
  sec1 : Section
  sec2 : Section
deriving DecidableEq, Repr

/-- A filtered triad: for each band three filtered values, or nothing (R40). -/
structure FilteredTriad where
  index : Nat
  time : Nat
  clip : PerComp Bool
  bridged : PerComp Bool
  bands : PerBand (Option (PerComp Int))
deriving DecidableEq, Repr

structure FilterBank where
  /-- Triads issued and not yet filtered, oldest first. -/
  inbox : List Triad
  notices : List Notice
  sections : PerBand (PerComp Cascade)
  /-- FILTER_SATURATING (R45). -/
  saturating : Bool
deriving DecidableEq, Repr

/-- Detector states (R54), in the order of their codes (R182). -/
inductive DetState where
  | off
  | warming
  | idle
  | on
deriving DecidableEq, Repr

/-- What one detector holds (R54). -/
structure Detector where
  state : DetState
  sta : Nat
  lta : Nat
  seedPending : Bool
  countdown : Nat
  onCount : Nat
  lh : Nat
deriving DecidableEq, Repr

/-- One entry of a Band History ring (R71). -/
structure RingEntry where
  index : Nat
  yZ : Int
  cfV : Nat
  cfH : Nat
  clip : PerComp Bool
  bridged : PerComp Bool
deriving DecidableEq, Repr

/-- A trigger: the detector's name, the trigger index and Lh (R60). -/
structure Trigger where
  det : Det
  index : Nat
  lh : Nat
deriving DecidableEq, Repr

/-- One enabled band's part of a triad's results: the filtered values (R65) and the ring entry just written, which the
engine reads (R89; log entry 9). -/
structure BandOut where
  y : PerComp Int
  entry : RingEntry
deriving DecidableEq, Repr

/-- The results of one triad (R65). -/
structure Results where
  index : Nat
  time : Nat
  bands : PerBand (Option BandOut)
  states : PerDet DetState
  triggers : List Trigger
  longs : List Band
deriving DecidableEq, Repr

structure DetectorArray where
  /-- Filtered triads not yet taken, oldest first. -/
  inbox : List FilteredTriad
  notices : List Notice
  dets : PerDet Detector
  /-- The Band History rings, oldest entry first (R72). -/
  rings : PerBand (List RingEntry)
deriving DecidableEq, Repr

/-! ### Context Engine -/

/-- The states of a context that is not FREE (R96). -/
inductive CtxState where
  | measure
  | open_
  | coda
deriving DecidableEq, Repr

/-- The class found at resolution (R92). -/
inductive Phase where
  | p
  | s
  | u
deriving DecidableEq, Repr

/-- First-motion polarity; `absent` for an H primary (R87). -/
inductive Polarity where
  | absent
  | pending
  | up
  | down
  | unknown
deriving DecidableEq, Repr

/-- The window state of R87 but for the CLIP mask and BRIDGED mark, which are flags of the context. -/
structure Window where
  ez : Nat
  eh : Nat
  counted : Nat
  polarity : Polarity
  polarityClipped : Bool
deriving DecidableEq, Repr

/-- An attached S arrival (R96, R106). -/
structure SPart where
  onset : Nat
  time : Nat
  quality : Nat
  mask : PerBand Bool
  ez : Nat
  eh : Nat
  truncated : Bool
  bridged : Bool
  clip : PerComp Bool
deriving DecidableEq, Repr

/-- A component's peak: magnitude and offset in triads from the onset (R110). -/
structure Peak where
  magnitude : Nat
  offset : Nat
deriving DecidableEq, Repr

/-- A context that is not FREE, with the fields of R96. -/
structure Context where
  state : CtxState
  event : Nat
  phase : Option Phase
  kind : Kind
  band : Band
  onset : Nat
  onsetTime : Nat
  quality : Nat
  mask : PerBand Bool
  lh : Option Nat
  window : Window
  parent : Option (Fin 8)
  sPart : Option SPart
  sAbsent : Bool
  secondaries : Nat
  peaks : PerComp Peak
  truncated : Bool
  bridged : Bool
  clip : PerComp Bool
  long : Bool
  codaCount : Nat
  life : Nat
deriving DecidableEq, Repr

structure Engine where
  /-- Results handed on and not yet taken, oldest first. -/
  inbox : List Results
  notices : List Notice
  /-- Slots 0 to 7; none is FREE. -/
  pool : Vector (Option Context) 8
  ptr : Fin 8
  counter : Nat
deriving DecidableEq, Repr

/-! ### Records and the Arrival Queue -/

/-- Causes of a closure (R116). -/
inductive Cause where
  | quiet
  | evicted
  | life
  | gap
  | restart
  | reconfig
deriving DecidableEq, Repr

/-- The measurement part of an own event's ONSET (R127). -/
structure Measurement where
  polarity : Polarity
  polarityClipped : Bool
  ez : Nat
  eh : Nat
deriving DecidableEq, Repr

/-- The window's flags in a record (R127, R129, R130). -/
structure RecFlags where
  truncated : Bool
  bridged : Bool
  clip : PerComp Bool
deriving DecidableEq, Repr

/-- An ONSET record (R127, R128); `slot` 8 is none. -/
structure OnsetRec where
  event : Nat
  slot : Nat
  phase : Phase
  time : Nat
  quality : Nat
  mask : PerBand Bool
  kind : Kind
  flags : RecFlags
  noContext : Bool
  incomplete : Bool
  single : Bool
  measurement : Option Measurement
deriving DecidableEq, Repr

/-- A SECOND record (R129). -/
structure SecondRec where
  event : Nat
  time : Nat
  quality : Nat
  mask : PerBand Bool
  ez : Nat
  eh : Nat
  flags : RecFlags
deriving DecidableEq, Repr

/-- A CLOSE record (R130, R131); the short form has no peak list. -/
structure CloseRec where
  event : Nat
  cause : Cause
  duration : Nat
  sPresent : Bool
  sAbsent : Bool
  secondaries : Nat
  flags : RecFlags
  long : Bool
  short : Bool
  peaks : Option (PerComp Peak)
deriving DecidableEq, Repr

/-- A record (R125). -/
inductive Record where
  | onset (r : OnsetRec)
  | second (r : SecondRec)
  | close (r : CloseRec)
deriving DecidableEq, Repr

/-- The egress mode (R136). -/
inductive EgressMode where
  | hold
  | emit
deriving DecidableEq, Repr

structure ArrivalQueue where
  /-- Oldest first (R132). -/
  records : List Record
  mode : EgressMode
deriving DecidableEq, Repr

/-! ### Table Bank, Command Unit, Status Unit -/

/-- The commit state (R148); QUIET_WAIT carries its wait timer: the limit and the time passed, in ms (R153).
FORCE_DUE carries how many of the notices now before the engine waited there as it was entered, by which the model tells
them from those that come in FORCE_DUE (R154; log entry 13). -/
inductive CommitState where
  | none
  | nextBoundary
  | quietWait (limitMs elapsedMs : Nat)
  | forceDue (earlier : Nat)
deriving DecidableEq, Repr

/-- The picker state (R157). -/
inductive Picker where
  | disarmed
  | running
deriving DecidableEq, Repr

structure TableBank where
  shadow : PerTable (List Byte)
  active : PerTable (List Byte)
  written : PerTable Bool
  valid : PerTable Bool
  commit : CommitState
  /-- Open, or closed with the stored code (R156). -/
  guard : Option Byte
  picker : Picker
deriving DecidableEq, Repr

/-- Result codes, in the order of their values (R182). -/
inductive Result where
  | done
  | unknown
  | malformed
  | busy
  | unwritten
  | locked
  | nothing
  | duplicateId
deriving DecidableEq, Repr

/-- A reply (R161); `resets` when the pending-reset mark names it (R171). -/
structure Reply where
  tag : Byte
  code : Byte
  result : Result
  data : List Byte
  resets : Bool
deriving DecidableEq, Repr

structure CommandUnit where
  /-- Payloads of COMMAND frames handed over and not yet taken, oldest first (R159). -/
  inbox : List (List Byte)
  /-- Oldest first (R162). -/
  replies : List Reply
  resetPending : Bool
deriving DecidableEq, Repr

/-- The twelve counters, in the order of section 10.4. -/
structure Counters where
  framesForwarded : Nat
  framesDropped : Nat
  crcErrors : Nat
  bytesSkipped : Nat
  badCommands : Nat
  bridges : Nat
  overlaps : Nat
  longGaps : Nat
  triggers : Nat
  evictions : Nat
  bareOnsets : Nat
  recordsDropped : Nat
deriving DecidableEq, Repr

/-- What a noise report says of one detector (R178). -/
structure DetReading where
  state : DetState
  sta : Nat
  lta : Nat
deriving DecidableEq, Repr

/-- A noise report (R178). -/
structure NoiseReport where
  picker : Picker
  occupancy : Nat
  flags : BitVec 20
  dets : PerDet DetReading
deriving DecidableEq, Repr

structure StatusUnit where
  /-- The latched flags; bit i is row i + 1 of the table in 10.2 (R182). -/
  flags : BitVec 20
  mask : BitVec 20
  counters : Counters
  /-- The report interval in seconds (R177). -/
  interval : Nat
  /-- The noise report timer: stopped, or milliseconds since it was started (R177). -/
  timer : Option Nat
  /-- The Report Slot (R179). -/
  slot : Option NoiseReport
deriving DecidableEq, Repr

/-- The part's state, one field for each block, and the commands that are waiting. -/
structure State where
  pending : List Instr
  sp : Framer
  lp : Framer
  link : Link
  asm : Assembler
  bank : FilterBank
  array : DetectorArray
  engine : Engine
  arrivals : ArrivalQueue
  tables : TableBank
  cmd : CommandUnit
  status : StatusUnit
deriving DecidableEq, Repr

/-! ### Reset values -/

/-- A framer after a full reset (R8). The line level is log entry 20. -/
def Framer.reset : Framer := ⟨.hunt, 0, [], .none, false⟩

/-- A component after a full reset (R22). -/
def CompState.reset : CompState := ⟨.none, []⟩

/-- The assembler after a full reset (R22, R36, R37). -/
def Assembler.reset : Assembler :=
  ⟨[], .unsynced, ⟨.reset, .reset, .reset⟩, ⟨⟨.none, false⟩, ⟨.none, false⟩, ⟨.none, false⟩⟩⟩

/-- A cleared biquad section (R50). -/
def Section.reset : Section := ⟨0, 0, 0, 0⟩

/-- The sections of one band, cleared (R50). -/
def PerComp.cleared : PerComp Cascade := ⟨⟨.reset, .reset⟩, ⟨.reset, .reset⟩, ⟨.reset, .reset⟩⟩

/-- The filter bank after a full reset (R50). -/
def FilterBank.reset : FilterBank := ⟨[], [], ⟨.cleared, .cleared, .cleared⟩, false⟩

/-- A detector that is OFF (R54). -/
def Detector.off : Detector := ⟨.off, 0, 0, false, 0, 0, 0⟩

/-- The Detector Array after a full reset (R54, R74). -/
def DetectorArray.reset : DetectorArray :=
  ⟨[], [], ⟨.off, .off, .off, .off, .off, .off⟩, ⟨[], [], []⟩⟩

/-- The Context Engine after a full reset (R97). -/
def Engine.reset : Engine := ⟨[], [], Vector.replicate 8 .none, 7, 0⟩

/-- Four images of zero bytes (R141). -/
def PerTable.zeros : PerTable (List Byte) :=
  ⟨List.replicate 32 0, List.replicate 96 0, List.replicate 144 0, List.replicate 32 0⟩

/-- The Table Bank after a full reset (R141). -/
def TableBank.reset : TableBank :=
  ⟨.zeros, .zeros, ⟨false, false, false, false⟩, ⟨false, false, false, false⟩, .none, .none, .disarmed⟩

/-- The counters after a full reset (R176). -/
def Counters.zero : Counters := ⟨0, 0, 0, 0, 0, 0, 0, 0, 0, 0, 0, 0⟩

/-- The Status Unit after a full reset (R181). -/
def StatusUnit.reset : StatusUnit := ⟨0, 0, .zero, 0, .none, .none⟩

/-- The part right after a full reset with the straps at `straps`, the waiting commands kept (R17). -/
def State.resetWith (straps : BitVec 2) (pending : List Instr) : State where
  pending := pending
  sp := .reset
  lp := .reset
  link := ⟨straps, [], [], .none, .none⟩
  asm := .reset
  bank := .reset
  array := .reset
  engine := .reset
  arrivals := ⟨[], .hold⟩
  tables := .reset
  cmd := ⟨[], [], false⟩
  status := .reset

/-- The machine right after reset. The strap levels are the model's choice (log entry 7). -/
def State.reset : State := State.resetWith 0 []

end Sys2Proof.Machine
end

