-- ==== Sys2Proof/Machine/Access.lean ====
section
/-! DEFINITION. Reading and replacing one entry of a per-component, per-band, per-detector or per-table value, and the
names that belong together. -/

namespace Sys2Proof.Machine

def PerComp.get {α : Type} (p : PerComp α) : Comp → α
  | .z => p.z
  | .n => p.n
  | .e => p.e

def PerComp.set {α : Type} (p : PerComp α) (c : Comp) (x : α) : PerComp α :=
  match c with
  | .z => { p with z := x }
  | .n => { p with n := x }
  | .e => { p with e := x }

def PerComp.map {α β : Type} (f : α → β) (p : PerComp α) : PerComp β := ⟨f p.z, f p.n, f p.e⟩

/-- The same value for Z, N and E. -/
def PerComp.all {α : Type} (x : α) : PerComp α := ⟨x, x, x⟩

/-- Componentwise "or" of two masks (R91, R106). -/
def PerComp.or (a b : PerComp Bool) : PerComp Bool := ⟨a.z || b.z, a.n || b.n, a.e || b.e⟩

def PerComp.any (a : PerComp Bool) : Bool := a.z || a.n || a.e

def PerBand.get {α : Type} (p : PerBand α) : Band → α
  | .b0 => p.b0
  | .b1 => p.b1
  | .b2 => p.b2

def PerBand.set {α : Type} (p : PerBand α) (b : Band) (x : α) : PerBand α :=
  match b with
  | .b0 => { p with b0 := x }
  | .b1 => { p with b1 := x }
  | .b2 => { p with b2 := x }

/-- A value for each band from its name. -/
def PerBand.of {α : Type} (f : Band → α) : PerBand α := ⟨f .b0, f .b1, f .b2⟩

/-- The union of two band masks (R106, R107). -/
def PerBand.or (a b : PerBand Bool) : PerBand Bool := ⟨a.b0 || b.b0, a.b1 || b.b1, a.b2 || b.b2⟩

/-- The band mask that holds one band (R99). -/
def PerBand.single (b : Band) : PerBand Bool := PerBand.of (fun c => decide (c = b))

def PerDet.get {α : Type} (p : PerDet α) : Det → α
  | .v0 => p.v0
  | .h0 => p.h0
  | .v1 => p.v1
  | .h1 => p.h1
  | .v2 => p.v2
  | .h2 => p.h2

/-- A value for each detector from its name. -/
def PerDet.of {α : Type} (f : Det → α) : PerDet α := ⟨f .v0, f .h0, f .v1, f .h1, f .v2, f .h2⟩

def PerDet.toList {α : Type} (p : PerDet α) : List α := [p.v0, p.h0, p.v1, p.h1, p.v2, p.h2]

def PerTable.get {α : Type} (p : PerTable α) : Table → α
  | .chan => p.chan
  | .band => p.band
  | .prof => p.prof
  | .rules => p.rules

def PerTable.set {α : Type} (p : PerTable α) (t : Table) (x : α) : PerTable α :=
  match t with
  | .chan => { p with chan := x }
  | .band => { p with band := x }
  | .prof => { p with prof := x }
  | .rules => { p with rules := x }

/-- All four marks set (R149). -/
def PerTable.full (p : PerTable Bool) : Bool := p.chan && p.band && p.prof && p.rules

/-- The order in which triggers and detector entries stand: V0, H0, V1, H1, V2, H2 (R65). -/
def Det.all : List Det := [.v0, .h0, .v1, .h1, .v2, .h2]

/-- The band a detector watches (R39). -/
def Det.band : Det → Band
  | .v0 => .b0
  | .h0 => .b0
  | .v1 => .b1
  | .h1 => .b1
  | .v2 => .b2
  | .h2 => .b2

/-- Whether a detector is V or H (R39). -/
def Det.kind : Det → Kind
  | .v0 => .v
  | .h0 => .h
  | .v1 => .v
  | .h1 => .h
  | .v2 => .v
  | .h2 => .h

/-- Slots 0 to 7 in order. -/
def slots : List (Fin 8) := [0, 1, 2, 3, 4, 5, 6, 7]

/-- The size of a table's image (section 8.1). -/
def Table.size : Table → Nat
  | .chan => 32
  | .band => 96
  | .prof => 144
  | .rules => 32

/-- The table a table number names (R182). -/
def Table.ofNumber (n : Nat) : Option Table :=
  match n with
  | 0 => some .chan
  | 1 => some .band
  | 2 => some .prof
  | 3 => some .rules
  | _ => none

end Sys2Proof.Machine
end

