-- ==== Sys2Proof/Machine/Bytes.lean ====
section
/-! DEFINITION. Byte order, fields of images, the frame CRC and the building of a frame. -/

namespace Sys2Proof.Machine

/-- The unsigned whole number that bytes hold, most significant first (R182). -/
def beNat (bs : List Byte) : Nat := bs.foldl (fun acc b => acc * 256 + b.toNat) 0

/-- The low `n` bytes of a number, most significant first (R182). -/
def beBytes : Nat → Nat → List Byte
  | 0, _ => []
  | n + 1, v => BitVec.ofNat 8 (v / 256 ^ n) :: beBytes n v

/-- A field of `bits` bits read as two's complement (R182). -/
def signed (bits v : Nat) : Int := if v < 2 ^ (bits - 1) then (v : Int) else (v : Int) - 2 ^ bits

/-- The field of `len` bytes at an offset of an image. -/
def fieldAt (img : List Byte) (off len : Nat) : Nat := beNat ((img.drop off).take len)

/-- An image with bytes replaced from an offset onward; bytes that would pass its end are left out. -/
def writeAt (img : List Byte) (off : Nat) (bs : List Byte) : List Byte :=
  (img.take off ++ bs ++ img.drop (off + bs.length)).take img.length

/-- `len` bytes of an image from an offset, 0 past its end (R143). -/
def readAt (img : List Byte) (off len : Nat) : List Byte :=
  (List.range len).map (fun i => img.getD (off + i) 0)

/-- One shift of the CRC register toward its high end (R3). -/
def crcShift (r : BitVec 16) : BitVec 16 :=
  if r.getLsbD 15 then (r <<< 1) ^^^ 0x8005#16 else r <<< 1

/-- One byte entered into the high half of the register, then eight shifts (R3). -/
def crcByte (r : BitVec 16) (b : Byte) : BitVec 16 :=
  crcShift (crcShift (crcShift (crcShift (crcShift (crcShift (crcShift (crcShift
    (r ^^^ (b.setWidth 16 <<< 8)))))))))

/-- The frame CRC over bytes: initial value 0xFFFF, no final inversion (R3). -/
def crc16 (bs : List Byte) : BitVec 16 := bs.foldl crcByte 0xFFFF#16

/-- The sync pair (R2). -/
def sync0 : Byte := 0xC9
def sync1 : Byte := 0x36

/-- Frame kinds (section 1.3). -/
def kindSample : Byte := 0x11
def kindCommand : Byte := 0x40
def kindReply : Byte := 0x60
def kindArrival : Byte := 0x61
def kindNoise : Byte := 0x62

/-- A frame: sync pair, kind, length, payload and CRC, high byte first (R2, R3). -/
def buildFrame (kind : Byte) (payload : List Byte) : List Byte :=
  let body := kind :: BitVec.ofNat 8 payload.length :: payload
  sync0 :: sync1 :: (body ++ beBytes 2 (crc16 body).toNat)

/-- The bytes a frame occupies, from its length byte, once that has been received (R2). -/
def frameLength (held : List Byte) : Option Nat :=
  match held with
  | _ :: _ :: _ :: len :: _ => some (len.toNat + 6)
  | _ => none

/-- The bytes held are a frame's worth or more (R9, R10). -/
def frameComplete (held : List Byte) : Bool :=
  match frameLength held with
  | none => false
  | some n => decide (n ≤ held.length)

/-- The CRC check over a whole frame: the computed CRC equals the two CRC bytes (R3). -/
def crcGood (frame : List Byte) : Bool :=
  let body := frame.drop 2
  let n := body.length - 2
  decide ((crc16 (body.take n)).toNat = beNat (body.drop n))

/-- The kind byte of a frame. -/
def frameKind (frame : List Byte) : Byte := frame.getD 2 0

/-- The payload of a whole frame (R2). -/
def framePayload (frame : List Byte) : List Byte := (frame.drop 4).take (frame.length - 6)

end Sys2Proof.Machine
end

