-- ==== Sys2Proof/Machine/Tables.lean ====
section
/-! DEFINITION. The settings that the four table images hold, read from their bytes (section 11.5, R185), and the
clamping of the images at a commit (R145 to R147). -/

namespace Sys2Proof.Machine

/-! ### Channel Map -/

/-- The settings of one stream (section 2.1). -/
structure StreamCfg where
  id : Byte
  invert : Bool
  clip : Nat
deriving DecidableEq, Repr

/-- The Channel Map's settings (section 2.1). -/
structure ChannelMap where
  rate : Nat
  stall : Nat
  bridge : Nat
  swap : Bool
  streams : PerComp StreamCfg
deriving DecidableEq, Repr

/-- A stream's five bytes: channel id, invert setting, clip level (section 11.5). -/
def readStream (img : List Byte) (off : Nat) : StreamCfg :=
  ⟨img.getD off 0, decide (fieldAt img (off + 1) 1 ≠ 0), fieldAt img (off + 2) 3⟩

/-- The Channel Map an image holds (section 11.5; the on-or-off settings by R185). -/
def readChannelMap (img : List Byte) : ChannelMap where
  rate := fieldAt img 0 1
  stall := fieldAt img 1 2
  bridge := fieldAt img 3 1
  swap := decide (fieldAt img 4 1 ≠ 0)
  streams := ⟨readStream img 5, readStream img 10, readStream img 15⟩

/-- The sample period in microseconds of a rate code (section 2.1). A code above 6 is in no valid active map. -/
def periodOf (rate : Nat) : Nat :=
  match rate with
  | 0 => 50000
  | 1 => 25000
  | 2 => 20000
  | 3 => 10000
  | 4 => 5000
  | 5 => 4000
  | _ => 2000

/-! ### Band Table -/

/-- The five coefficients of a section (R41). -/
structure Coeffs where
  b0 : Int
  b1 : Int
  b2 : Int
  a1 : Int
  a2 : Int
deriving DecidableEq, Repr

/-- One band's settings (section 3.1). -/
structure BandCfg where
  enable : Bool
  vEnable : Bool
  hEnable : Bool
  vShift : Nat
  hShift : Nat
  sec1 : Coeffs
  sec2 : Coeffs
deriving DecidableEq, Repr

/-- Five signed 24-bit coefficients from an offset (section 11.5). -/
def readCoeffs (img : List Byte) (off : Nat) : Coeffs :=
  let c := fun i => signed 24 (fieldAt img (off + 3 * i) 3)
  ⟨c 0, c 1, c 2, c 3, c 4⟩

/-- The offset of a band in the Band Table. -/
def bandOffset : Band → Nat
  | .b0 => 0
  | .b1 => 32
  | .b2 => 64

/-- A band's settings (section 11.5, R185). -/
def readBand (img : List Byte) (b : Band) : BandCfg :=
  let o := bandOffset b
  let byte0 := img.getD o 0
  let byte1 := img.getD (o + 1) 0
  { enable := byte0.getLsbD 5
    vEnable := byte0.getLsbD 6
    hEnable := byte0.getLsbD 7
    vShift := byte0.toNat % 32
    hShift := byte1.toNat % 32
    sec1 := readCoeffs img (o + 2)
    sec2 := readCoeffs img (o + 17) }

/-! ### Detection Profiles -/

/-- One detector's nine settings (R147, section 11.5). -/
structure Profile where
  ks : Nat
  kl : Nat
  thrOn : Nat
  thrOff : Nat
  floor : Nat
  onsetFactor : Nat
  depth : Nat
  warmUp : Nat
  maxOn : Nat
deriving DecidableEq, Repr

/-- The offset of a detector's profile (section 11.5). -/
def profOffset : Det → Nat
  | .v0 => 0
  | .h0 => 24
  | .v1 => 48
  | .h1 => 72
  | .v2 => 96
  | .h2 => 120

/-- A detector's profile (section 11.5). -/
def readProfile (img : List Byte) (d : Det) : Profile :=
  let o := profOffset d
  { ks := fieldAt img o 1
    kl := fieldAt img (o + 1) 1
    thrOn := fieldAt img (o + 2) 2
    thrOff := fieldAt img (o + 4) 2
    floor := fieldAt img (o + 6) 3
    onsetFactor := fieldAt img (o + 9) 2
    depth := fieldAt img (o + 11) 1
    warmUp := fieldAt img (o + 12) 2
    maxOn := fieldAt img (o + 14) 2 }

/-! ### Event Rules -/

/-- The Event Rules' settings (section 11.5). -/
structure Rules where
  fmWindow : Nat
  fmFactor : Nat
  pRatio : Nat
  sRatio : Nat
  sMin : Nat
  sMax : Nat
  merge : Nat
  codaHold : Nat
  maxEvent : Nat
  watermark : Nat
deriving DecidableEq, Repr

/-- The Event Rules an image holds (section 11.5). -/
def readRules (img : List Byte) : Rules where
  fmWindow := fieldAt img 0 1
  fmFactor := fieldAt img 1 2
  pRatio := fieldAt img 3 2
  sRatio := fieldAt img 5 2
  sMin := fieldAt img 7 2
  sMax := fieldAt img 9 2
  merge := fieldAt img 11 1
  codaHold := fieldAt img 12 2
  maxEvent := fieldAt img 14 4
  watermark := fieldAt img 18 1

/-! ### The active settings of a state -/

/-- The active Channel Map (R19). -/
def State.chanMap (s : State) : ChannelMap := readChannelMap s.tables.active.chan

/-- The sample period P in microseconds (R19). -/
def State.period (s : State) : Nat := periodOf s.chanMap.rate

/-- A band's active settings (R38). -/
def State.bandCfg (s : State) (b : Band) : BandCfg := readBand s.tables.active.band b

/-- A detector's active profile (R57). -/
def State.profile (s : State) (d : Det) : Profile := readProfile s.tables.active.prof d

/-- The active Event Rules. -/
def State.rules (s : State) : Rules := readRules s.tables.active.rules

/-- A detector runs when its band's enable and its own enable are on (R39). -/
def detRuns (img : List Byte) (d : Det) : Bool :=
  let b := readBand img d.band
  b.enable && (match d.kind with | .v => b.vEnable | .h => b.hEnable)

/-- The stream an id is mapped as, in a Channel Map (R5, R20). -/
def ChannelMap.streamOf (m : ChannelMap) (id : Byte) : Option Comp :=
  if id = m.streams.z.id then some .z
  else if id = m.streams.n.id then some .n
  else if id = m.streams.e.id then some .e
  else none

/-- The component a stream feeds (R20). -/
def ChannelMap.component (m : ChannelMap) (stream : Comp) : Comp :=
  if m.swap then (match stream with | .z => .z | .n => .e | .e => .n) else stream

/-- The stream of a channel id under the active map; none while no map is active (R5, R19). -/
def State.streamOf (s : State) (id : Byte) : Option Comp :=
  if s.tables.valid.chan then s.chanMap.streamOf id else none

/-! ### Clamping (R145 to R147) -/

/-- An image being clamped, and the fields changed so far. -/
structure Clamped where
  img : List Byte
  count : Nat
deriving DecidableEq, Repr

/-- Clamp the field of `len` bytes at `off`: a value outside `lo` to `hi` is rewritten, `below` for a value under the
range and `above` for one over it, and counted once (R145, R185). -/
def clampField (off len lo hi below above : Nat) (c : Clamped) : Clamped :=
  let v := fieldAt c.img off len
  if v < lo then ⟨writeAt c.img off (beBytes len below), c.count + 1⟩
  else if hi < v then ⟨writeAt c.img off (beBytes len above), c.count + 1⟩
  else c

/-- A field whose out-of-range value takes the nearer end. -/
def clampNearer (off len lo hi : Nat) (c : Clamped) : Clamped := clampField off len lo hi lo hi c

/-- A field whose out-of-range value takes one stated value. -/
def clampTo (off len lo hi v : Nat) (c : Clamped) : Clamped := clampField off len lo hi v v c

/-- The 5-bit CF shift at a byte: 31 becomes 30, the other bits of the byte stay (R146, R185). -/
def clampShift (off : Nat) (c : Clamped) : Clamped :=
  let b := c.img.getD off 0
  if b.toNat % 32 = 31 then ⟨writeAt c.img off [b - 1], c.count + 1⟩ else c

/-- The Channel Map's clamps (R146). -/
def clampChannelMap (img : List Byte) : Clamped :=
  clampNearer 17 3 1 8388607
    (clampNearer 12 3 1 8388607
      (clampNearer 7 3 1 8388607
        (clampTo 3 1 0 16 16
          (clampNearer 1 2 100 10000
            (clampTo 0 1 0 6 3 ⟨img, 0⟩)))))

/-- The Band Table's clamps (R146). -/
def clampBandTable (img : List Byte) : Clamped :=
  clampShift 65 (clampShift 64 (clampShift 33 (clampShift 32 (clampShift 1 (clampShift 0 ⟨img, 0⟩)))))

/-- One profile's clamps in the order ks, kl, thr_on, thr_off, then the rest, each against the clamped values before it
(R147). -/
def clampProfile (d : Det) (c : Clamped) : Clamped :=
  let o := profOffset d
  let c := clampNearer o 1 1 8 c
  let c := clampNearer (o + 1) 1 (fieldAt c.img o 1 + 1) 15 c
  let c := clampNearer (o + 2) 2 17 1023 c
  let c := clampNearer (o + 4) 2 16 (fieldAt c.img (o + 2) 2 - 1) c
  let c := clampTo (o + 6) 3 1 16777215 1 c
  let c := clampNearer (o + 9) 2 16 1023 c
  let c := clampNearer (o + 11) 1 1 127 c
  let c := clampTo (o + 12) 2 (2 ^ fieldAt c.img (o + 1) 1) 65535 (2 ^ fieldAt c.img (o + 1) 1) c
  clampTo (o + 14) 2 1 65535 1 c

/-- The Detection Profiles' clamps, V0, H0, V1, H1, V2, H2 (R145, R147). -/
def clampProfiles (img : List Byte) : Clamped :=
  Det.all.foldl (fun c d => clampProfile d c) ⟨img, 0⟩

/-- The Event Rules' clamps in their order (R147). -/
def clampRules (img : List Byte) : Clamped :=
  let c := clampNearer 0 1 4 64 ⟨img, 0⟩
  let c := clampNearer 1 2 16 1023 c
  let c := clampNearer 3 2 16 1023 c
  let c := clampNearer 5 2 16 1023 c
  let c := clampTo 7 2 1 65535 1 c
  let sMin := fieldAt c.img 7 2
  let c := clampTo 9 2 sMin 65535 sMin c
  let c := clampTo 12 2 1 65535 1 c
  let c := clampNearer 14 4 (fieldAt c.img 9 2 + fieldAt c.img 0 1) 1000000 c
  clampNearer 18 1 8 32 c

/-- The four images clamped, in table order, and the clamp count (R145). -/
def clampAll (t : PerTable (List Byte)) : PerTable (List Byte) × Nat :=
  let a := clampChannelMap t.chan
  let b := clampBandTable t.band
  let c := clampProfiles t.prof
  let d := clampRules t.rules
  (⟨a.img, b.img, c.img, d.img⟩, a.count + b.count + c.count + d.count)

end Sys2Proof.Machine
end

