-- ==== Sys2Proof/Machine/Flags.lean ====
section
/-! DEFINITION. The latched flags, the counters, the live conditions, the attention bit and the status summary byte. -/

namespace Sys2Proof.Machine

/-- The twenty latched flags, in the order of the table in 10.2. -/
inductive Flag where
  | lostLockSp
  | lostLockLp
  | crcError
  | egressOverrun
  | upstreamOverrun
  | sampleMalformed
  | rateMismatch
  | gridMismatch
  | overlap
  | longGap
  | stall
  | filterSat
  | longTrigger
  | eviction
  | noContext
  | queueFull
  | replyOverrun
  | clamped
  | swapped
  | commitForced
deriving DecidableEq, Repr

/-- A flag's bit position: row i + 1 of the table in 10.2 is bit i (R182). -/
def Flag.bit : Flag → Nat
  | .lostLockSp => 0
  | .lostLockLp => 1
  | .crcError => 2
  | .egressOverrun => 3
  | .upstreamOverrun => 4
  | .sampleMalformed => 5
  | .rateMismatch => 6
  | .gridMismatch => 7
  | .overlap => 8
  | .longGap => 9
  | .stall => 10
  | .filterSat => 11
  | .longTrigger => 12
  | .eviction => 13
  | .noContext => 14
  | .queueFull => 15
  | .replyOverrun => 16
  | .clamped => 17
  | .swapped => 18
  | .commitForced => 19

/-- The twelve counters, in the order of section 10.4. -/
inductive Counter where
  | framesForwarded
  | framesDropped
  | crcErrors
  | bytesSkipped
  | badCommands
  | bridges
  | overlaps
  | longGaps
  | triggers
  | evictions
  | bareOnsets
  | recordsDropped
deriving DecidableEq, Repr

def Counters.get (c : Counters) : Counter → Nat
  | .framesForwarded => c.framesForwarded
  | .framesDropped => c.framesDropped
  | .crcErrors => c.crcErrors
  | .bytesSkipped => c.bytesSkipped
  | .badCommands => c.badCommands
  | .bridges => c.bridges
  | .overlaps => c.overlaps
  | .longGaps => c.longGaps
  | .triggers => c.triggers
  | .evictions => c.evictions
  | .bareOnsets => c.bareOnsets
  | .recordsDropped => c.recordsDropped

/-- `n` advances of one counter, each stopping at 4,294,967,295 (R176). -/
def satAdd (v n : Nat) : Nat := min (v + n) max32

def Counters.bump (c : Counters) (k : Counter) (n : Nat) : Counters :=
  match k with
  | .framesForwarded => { c with framesForwarded := satAdd c.framesForwarded n }
  | .framesDropped => { c with framesDropped := satAdd c.framesDropped n }
  | .crcErrors => { c with crcErrors := satAdd c.crcErrors n }
  | .bytesSkipped => { c with bytesSkipped := satAdd c.bytesSkipped n }
  | .badCommands => { c with badCommands := satAdd c.badCommands n }
  | .bridges => { c with bridges := satAdd c.bridges n }
  | .overlaps => { c with overlaps := satAdd c.overlaps n }
  | .longGaps => { c with longGaps := satAdd c.longGaps n }
  | .triggers => { c with triggers := satAdd c.triggers n }
  | .evictions => { c with evictions := satAdd c.evictions n }
  | .bareOnsets => { c with bareOnsets := satAdd c.bareOnsets n }
  | .recordsDropped => { c with recordsDropped := satAdd c.recordsDropped n }

/-- The flag is latched. -/
def flagSet (flags : BitVec 20) (f : Flag) : Bool := flags.getLsbD f.bit

/-- The flags with one more latched (R174). -/
def latchFlag (flags : BitVec 20) (f : Flag) : BitVec 20 := flags ||| BitVec.ofNat 20 (2 ^ f.bit)

/-- Latch a flag (R174). -/
def State.latch (f : Flag) (s : State) : State :=
  { s with status := { s.status with flags := latchFlag s.status.flags f } }

/-- Latch a flag when its cause occurred. -/
def State.latchIf (b : Bool) (f : Flag) (s : State) : State := if b then s.latch f else s

/-- Advance a counter `n` times (R176). -/
def State.bump (k : Counter) (n : Nat) (s : State) : State :=
  { s with status := { s.status with counters := s.status.counters.bump k n } }

/-! ### Live conditions (R173) -/

/-- INGRESS_STALL: any awaited mark is set (R36). -/
def State.ingressStall (s : State) : Bool :=
  s.asm.stall.z.awaited || s.asm.stall.n.awaited || s.asm.stall.e.awaited

/-- ANY_DETECTOR_ON (R66). -/
def State.anyDetectorOn (s : State) : Bool := s.array.dets.toList.any (fun d => decide (d.state = .on))

/-- COMMIT_PENDING: the commit state is not NONE (R148). -/
def State.commitPending (s : State) : Bool := decide (s.tables.commit ≠ .none)

/-- W as the status block reads it: 0 while no active image is valid (R180). -/
def State.watermark (s : State) : Nat := if s.tables.valid.rules then s.rules.watermark else 0

/-- AT_WATERMARK: the occupancy is at or above W, and false while no Event Rules are active (R134). -/
def State.atWatermark (s : State) : Bool :=
  s.tables.valid.rules && decide (s.rules.watermark ≤ s.arrivals.records.length)

/-- NO_DETECTORS: RUNNING, and no detector runs under the active Band Table (R39). -/
def State.noDetectors (s : State) : Bool :=
  decide (s.tables.picker = .running) && !(Det.all.any (fun d => detRuns s.tables.active.band d))

/-- The eight live conditions in the order of the table in 10.1 (R182). -/
def State.conditions (s : State) : List Bool :=
  [decide (s.sp.lock = .locked), decide (s.lp.lock = .locked), s.ingressStall, s.anyDetectorOn,
    s.commitPending, s.atWatermark, s.bank.saturating, s.noDetectors]

/-- Bits as a number, the first being bit 0. -/
def bitsToNat : List Bool → Nat
  | [] => 0
  | b :: bs => (if b then 1 else 0) + 2 * bitsToNat bs

/-- The attention bit: some flag is both latched and named in the mask (R175). -/
def State.attention (s : State) : Bool := decide (s.status.flags &&& s.status.mask ≠ 0)

/-- The status summary byte (R7, R182). -/
def State.summary (s : State) : Byte :=
  BitVec.ofNat 8 (bitsToNat [s.attention, decide (s.tables.picker = .running), s.atWatermark, s.commitPending])

/-! ### Flag masks in commands and replies (R182) -/

/-- A 24-bit flag mask from its three bytes; none when it names a position that is no flag (R183). -/
def readMask (bs : List Byte) : Option (BitVec 20) :=
  if beNat bs < 2 ^ 20 then some (BitVec.ofNat 20 (beNat bs)) else none

/-- The three bytes of a flag mask. -/
def maskBytes (m : BitVec 20) : List Byte := beBytes 3 m.toNat

/-- The flags less those the mask names (R165). -/
def clearFlags (flags mask : BitVec 20) : BitVec 20 := flags &&& ~~~mask

end Sys2Proof.Machine
end

