-- ==== Sys2Proof/Machine/Layouts.lean ====
section
/-! DEFINITION. The byte layouts of chapter 11: codes, records, replies, the noise report and the status block. -/

namespace Sys2Proof.Machine

def boolByte (b : Bool) : Byte := if b then 1 else 0

def Comp.code : Comp → Byte
  | .z => 0
  | .n => 1
  | .e => 2

/-- Record phase codes (section 11.3). -/
def Phase.code : Phase → Byte
  | .p => 1
  | .s => 2
  | .u => 3

/-- Primary kind codes (section 11.3). -/
def Kind.code : Kind → Byte
  | .v => 0
  | .h => 1

/-- Polarity codes (section 11.3); a pending polarity is in no record. -/
def Polarity.code : Polarity → Byte
  | .absent => 0
  | .pending => 0
  | .up => 1
  | .down => 2
  | .unknown => 3

/-- CLOSE cause codes (section 11.3). -/
def Cause.code : Cause → Byte
  | .quiet => 1
  | .evicted => 2
  | .life => 3
  | .gap => 4
  | .restart => 5
  | .reconfig => 6

/-- Result codes (R182). -/
def Result.code : Result → Byte
  | .done => 0
  | .unknown => 1
  | .malformed => 2
  | .busy => 3
  | .unwritten => 4
  | .locked => 5
  | .nothing => 6
  | .duplicateId => 7

/-- Detector state codes (R182). -/
def DetState.code : DetState → Byte
  | .off => 0
  | .warming => 1
  | .idle => 2
  | .on => 3

/-- Context state codes; FREE is 0 (R182). -/
def ctxCode : Option Context → Byte
  | none => 0
  | some c => match c.state with
    | .measure => 1
    | .open_ => 2
    | .coda => 3

/-- Commit state codes (R182). -/
def CommitState.code : CommitState → Byte
  | .none => 0
  | .nextBoundary => 1
  | .quietWait _ _ => 2
  | .forceDue _ => 3

def Picker.code : Picker → Byte
  | .disarmed => 0
  | .running => 1

def EgressMode.code : EgressMode → Byte
  | .hold => 0
  | .emit => 1

/-- A band mask's byte (R182). -/
def bandMaskByte (m : PerBand Bool) : Byte := BitVec.ofNat 8 (bitsToNat [m.b0, m.b1, m.b2])

/-- A record's flag word (section 11.3). -/
def flagWord (f : RecFlags) (long noContext incomplete single short : Bool) : List Byte :=
  beBytes 2 (bitsToNat [f.truncated, f.bridged, f.clip.z, f.clip.n, f.clip.e, long, noContext, incomplete, single,
    short])

/-- A CLOSE record's peak entry (section 11.3). -/
def peakBytes (c : Comp) (p : Peak) : List Byte := Comp.code c :: (beBytes 3 p.magnitude ++ beBytes 4 p.offset)

/-- The record part of an ARRIVAL payload, from its record type at offset 1 onward (section 11.3, R184). -/
def Record.bytes : Record → List Byte
  | .onset r =>
    1 :: (beBytes 2 r.event ++ [BitVec.ofNat 8 r.slot, r.phase.code] ++ beBytes 8 r.time
      ++ [BitVec.ofNat 8 r.quality, bandMaskByte r.mask, r.kind.code]
      ++ flagWord r.flags false r.noContext r.incomplete r.single false
      ++ (match r.measurement with
          | none => []
          | some m => [m.polarity.code, boolByte m.polarityClipped] ++ beBytes 6 m.ez ++ beBytes 6 m.eh))
  | .second r =>
    2 :: (beBytes 2 r.event ++ beBytes 8 r.time ++ [BitVec.ofNat 8 r.quality, bandMaskByte r.mask]
      ++ flagWord r.flags false false false false false ++ beBytes 6 r.ez ++ beBytes 6 r.eh)
  | .close r =>
    3 :: (beBytes 2 r.event ++ [r.cause.code] ++ beBytes 4 r.duration
      ++ [BitVec.ofNat 8 (bitsToNat [r.sPresent, r.sAbsent]), BitVec.ofNat 8 r.secondaries]
      ++ flagWord r.flags r.long false false false r.short
      ++ (match r.peaks with
          | none => []
          | some p => peakBytes .z p.z ++ peakBytes .n p.n ++ peakBytes .e p.e))

/-- A reply's payload after the status summary byte (section 11.2). -/
def Reply.bytes (r : Reply) : List Byte := r.tag :: r.code :: r.result.code :: r.data

/-- One detector entry of nine bytes (section 11.4). -/
def readingBytes (d : DetReading) : List Byte := d.state.code :: (beBytes 4 d.sta ++ beBytes 4 d.lta)

/-- The six detector entries, V0 first (section 11.4). -/
def detEntries (d : PerDet DetReading) : List Byte := d.toList.flatMap readingBytes

/-- What a detector shows outside (R76). -/
def Detector.reading (d : Detector) : DetReading := ⟨d.state, d.sta, d.lta⟩

/-- The six readings as they stand (R76). -/
def State.readings (s : State) : PerDet DetReading := PerDet.of (fun d => (s.array.dets.get d).reading)

/-- A noise report's payload after the status summary byte (section 11.4). -/
def NoiseReport.bytes (r : NoiseReport) : List Byte :=
  [r.picker.code, BitVec.ofNat 8 r.occupancy] ++ maskBytes r.flags ++ detEntries r.dets

/-- The noise report formed at an expiry (R178). -/
def State.noiseReport (s : State) : NoiseReport :=
  ⟨s.tables.picker, s.arrivals.records.length, s.status.flags, s.readings⟩

/-- One slot's three bytes in the status block (section 11.4). -/
def slotBytes (c : Option Context) : List Byte :=
  ctxCode c :: beBytes 2 (match c with | none => 0 | some x => x.event)

/-- The remaining wait in milliseconds, 0 outside QUIET_WAIT (R153). -/
def CommitState.remaining : CommitState → Nat
  | .quietWait limit elapsed => limit - elapsed
  | .none => 0
  | .nextBoundary => 0
  | .forceDue _ => 0

/-- The counters in their order, four bytes each (section 11.4). -/
def counterBytes (c : Counters) : List Byte :=
  [c.framesForwarded, c.framesDropped, c.crcErrors, c.bytesSkipped, c.badCommands, c.bridges, c.overlaps,
    c.longGaps, c.triggers, c.evictions, c.bareOnsets, c.recordsDropped].flatMap (beBytes 4)

/-- The status block of 148 bytes (R180, section 11.4). -/
def State.statusBlock (s : State) : List Byte :=
  [s.tables.picker.code, (match s.asm.phase with | .unsynced => 0 | .aligned _ _ => 1)]
    ++ detEntries s.readings
    ++ slots.flatMap (fun i => slotBytes (s.engine.pool.get i))
    ++ beBytes 2 s.engine.counter
    ++ [s.tables.commit.code]
    ++ beBytes 4 s.tables.commit.remaining
    ++ [boolByte s.tables.guard.isSome, s.arrivals.mode.code, BitVec.ofNat 8 s.arrivals.records.length,
        BitVec.ofNat 8 s.watermark]
    ++ beBytes 2 s.status.interval
    ++ [BitVec.ofNat 8 (bitsToNat s.conditions)]
    ++ maskBytes s.status.flags
    ++ maskBytes s.status.mask
    ++ counterBytes s.status.counters

end Sys2Proof.Machine
end

