-- ==== Sys2Proof/Machine/Ops.lean ====
section
/-! DEFINITION. The operations that several blocks share: offers to the queues, the admission of a record, notices on
their way to the picking blocks, replies, and the passing of a millisecond. -/

namespace Sys2Proof.Machine

/-! ### Queues toward the ports -/

/-- A good downstream frame offered to the Forward Queue (R13). -/
def offerForward (frame : List Byte) (s : State) : State :=
  if s.link.forwardQ.length < Config.forwardDepth then
    { s with link := { s.link with forwardQ := s.link.forwardQ ++ [frame] } }
  else (s.bump .framesDropped 1).latch .egressOverrun

/-- A good upstream frame that is not a command offered to the Upstream Queue (R14). -/
def offerUpstream (frame : List Byte) (s : State) : State :=
  if s.link.upstreamQ.length < Config.upstreamDepth then
    { s with link := { s.link with upstreamQ := s.link.upstreamQ ++ [frame] } }
  else (s.bump .framesDropped 1).latch .upstreamOverrun

/-! ### Arrival Queue -/

/-- A record of SINGLE onset (R133). -/
def Record.isSingle : Record → Bool
  | .onset r => r.single
  | .second _ => false
  | .close _ => false

/-- The form in which a record is admitted at or above the watermark: a CLOSE without its peak list, SHORT set
(R131, R133). -/
def Record.shorten : Record → Record
  | .onset r => .onset r
  | .second r => .second r
  | .close r => .close { r with short := true, peaks := none }

/-- Add a record at the tail of the Arrival Queue (R133). -/
def State.enqueue (r : Record) (s : State) : State :=
  { s with arrivals := { s.arrivals with records := s.arrivals.records ++ [r] } }

/-- The admission of a generated record by the occupancy and W (R133). -/
def admitRecord (r : Record) (s : State) : State :=
  let q := s.arrivals.records.length
  if Config.arrivalDepth ≤ q then (s.bump .recordsDropped 1).latch .queueFull
  else if q < s.rules.watermark then s.enqueue r
  else if r.isSingle then s.bump .recordsDropped 1
  else s.enqueue r.shorten

/-! ### Triads in progress and notices -/

/-- Triads issued and not yet reported on by the Context Engine (R148, R150). -/
def State.inProgress (s : State) : Nat := s.bank.inbox.length + s.array.inbox.length + s.engine.inbox.length

/-- A gap notice or a restart sent to the three picking blocks, each after the triads issued before it that the block
has not finished (R31, R170). -/
def sendNotices (k : NoticeKind) (s : State) : State :=
  let toBank := s.bank.inbox.length
  let toArray := toBank + s.array.inbox.length
  { s with
    bank := { s.bank with notices := s.bank.notices ++ [⟨k, toBank⟩] }
    array := { s.array with notices := s.array.notices ++ [⟨k, toArray⟩] }
    engine := { s.engine with notices := s.engine.notices ++ [⟨k, toArray + s.engine.inbox.length⟩] } }

/-- The oldest notice, when every triad before it is finished (R31, R170). -/
def dueNotice (ns : List Notice) : Option NoticeKind :=
  match ns with
  | [] => none
  | n :: _ => if n.ahead = 0 then some n.kind else none

/-- The notices after the block has finished one more triad. -/
def countTriad (ns : List Notice) : List Notice := ns.map (fun n => { n with ahead := n.ahead - 1 })

/-- Take the oldest notice when it is due and of the kind asked for; the notices that stay. -/
def takeNotice (k : NoticeKind) (ns : List Notice) : Option (List Notice) :=
  if dueNotice ns = some k then some ns.tail else none

/-! ### Replies -/

/-- Add a reply at the tail of the Reply Queue (R161, R162). -/
def pushReply (r : Reply) (s : State) : State :=
  { s with cmd := { s.cmd with replies := s.cmd.replies ++ [r] } }

/-! ### The timebase -/

/-- A running timer one millisecond on, held at the count at which it has expired. -/
def tickTimer (limit : Nat) (t : Option Nat) : Option Nat := t.map (fun ms => min (ms + 1) limit)

/-- A running timer has reached the count at which it expires (R12, R36, R177). -/
def timerExpired (limit : Nat) (t : Option Nat) : Bool :=
  match t with
  | none => false
  | some ms => decide (limit ≤ ms)

def Framer.tick (f : Framer) : Framer := { f with timer := tickTimer Config.byteTimeoutMs f.timer }

def TxFrame.tick (f : TxFrame) : TxFrame := { f with ms := f.ms + 1 }

def Stall.tick (limit : Nat) (t : Stall) : Stall := { t with timer := tickTimer limit t.timer }

/-- The wait timer one millisecond on (R153). -/
def CommitState.tick : CommitState → CommitState
  | .none => .none
  | .nextBoundary => .nextBoundary
  | .quietWait limit elapsed => .quietWait limit (min (elapsed + 1) limit)
  | .forceDue earlier => .forceDue earlier

/-- One millisecond of the local timebase: what the part does while no command comes (log entry 2). DESIGN CHOICE. -/
def State.tick (s : State) : State :=
  { s with
    sp := s.sp.tick
    lp := s.lp.tick
    link := { s.link with lpLine := s.link.lpLine.map TxFrame.tick, spLine := s.link.spLine.map TxFrame.tick }
    asm := { s.asm with stall := s.asm.stall.map (Stall.tick s.chanMap.stall) }
    tables := { s.tables with commit := s.tables.commit.tick }
    status := { s.status with timer := tickTimer (s.status.interval * 1000) s.status.timer } }

/-- The bit rate that the straps choose, in bit/s (R1). -/
def bitRate (straps : BitVec 2) : Nat :=
  match straps.toNat with
  | 0 => 230400
  | 1 => 460800
  | 2 => 921600
  | _ => 1843200

/-- How many bytes of a frame have left a line: ten bit times a byte, back to back (R1; log entry 17). -/
def TxFrame.sent (straps : BitVec 2) (f : TxFrame) : Nat := min f.bytes.length (f.ms * bitRate straps / 10000)

end Sys2Proof.Machine
end

