-- ==== Sys2Proof/Machine/Egress.lean ====
section
/-! DEFINITION. The transmit lines, the noise report timer and the full reset: FULL_RESET, NOISE_TIMER_EXPIRY,
UPSTREAM_FRAME_START, UPSTREAM_FRAME_SENT, EGRESS_CHOICE and EGRESS_FRAME_SENT (sections 1.5 and 1.6, R172, R178). -/

namespace Sys2Proof.Machine

/-! ### The full reset -/

/-- Every block at its reset value, with the straps sampled; the commands that wait go on waiting (R1, R17). -/
def fullReset (straps : BitVec 2) (s : State) : State := State.resetWith straps s.pending

/-- FULL_RESET (R17). -/
def execFullReset (straps : BitVec 2) (s : State) : Host.Outcome State Fault Refusal := .next (fullReset straps s)

/-! ### Noise reports -/

/-- NOISE_TIMER_EXPIRY (R177 to R179): once the report interval has passed since the timer was last started, it starts
again and the report takes the slot. Before that, and with the timer stopped, there is no expiry (log entries 1
and 3). -/
def execNoiseTimerExpiry (s : State) : Host.Outcome State Fault Refusal :=
  if timerExpired (s.status.interval * 1000) s.status.timer then
    .next { s with status := { s.status with timer := some 0, slot := some s.noiseReport } }
  else .next s

/-! ### SP_TXD -/

/-- UPSTREAM_FRAME_START (R14). -/
def execUpstreamFrameStart (s : State) : Host.Outcome State Fault Refusal :=
  match s.link.spLine, s.link.upstreamQ with
  | none, frame :: rest =>
    .next { s with link := { s.link with upstreamQ := rest, spLine := some ⟨frame, .upstream, false, 0⟩ } }
  | _, _ => .next s

/-- UPSTREAM_FRAME_SENT (R14). -/
def execUpstreamFrameSent (s : State) : Host.Outcome State Fault Refusal :=
  match s.link.spLine with
  | none => .next s
  | some _ => .next (({ s with link := { s.link with spLine := none } }).bump .framesForwarded 1)

/-! ### LP_TXD -/

/-- A frame of the part's own: the status summary byte before its payload, and the CRC, formed as it is chosen
(R3, R7, R182). -/
def State.partFrame (kind : Byte) (rest : List Byte) (s : State) : List Byte := buildFrame kind (s.summary :: rest)

def State.startLp (bytes : List Byte) (source : Source) (resets : Bool) (s : State) : State :=
  { s with link := { s.link with lpLine := some ⟨bytes, source, resets, 0⟩ } }

/-- The oldest relayed frame leaves the Forward Queue for the line (R13, R15). -/
def startForward (frame : List Byte) (rest : List (List Byte)) (s : State) : State :=
  { s with link := { s.link with forwardQ := rest } }.startLp frame .forward false

/-- The oldest reply leaves the Reply Queue for the line (R15, R162). -/
def startReply (r : Reply) (rest : List Reply) (s : State) : State :=
  let s := { s with cmd := { s.cmd with replies := rest } }
  s.startLp (s.partFrame kindReply r.bytes) .reply r.resets

/-- The report leaves the Report Slot for the line (R15, R179). -/
def startReport (r : NoiseReport) (s : State) : State :=
  let s := { s with status := { s.status with slot := none } }
  s.startLp (s.partFrame kindNoise r.bytes) .report false

/-- The oldest record leaves the Arrival Queue for the line; its summary byte is formed with the record gone (R15, R134,
R135; log entry 14). -/
def startArrival (r : Record) (rest : List Record) (s : State) : State :=
  let s := { s with arrivals := { s.arrivals with records := rest } }
  s.startLp (s.partFrame kindArrival r.bytes) .arrival false

/-- The choice on a free line: the Forward Queue, the Reply Queue, the Report Slot, and in EMIT the Arrival Queue
(R15). -/
def chooseFrame (s : State) : State :=
  match s.link.forwardQ, s.cmd.replies, s.status.slot, s.arrivals.mode, s.arrivals.records with
  | frame :: rest, _, _, _, _ => startForward frame rest s
  | [], r :: rest, _, _, _ => startReply r rest s
  | [], [], some r, _, _ => startReport r s
  | [], [], none, .emit, r :: rest => startArrival r rest s
  | [], [], none, .emit, [] => s
  | [], [], none, .hold, _ => s

/-- EGRESS_CHOICE (R15). -/
def execEgressChoice (s : State) : Host.Outcome State Fault Refusal :=
  match s.link.lpLine with
  | some _ => .next s
  | none => .next (chooseFrame s)

/-- What the departure of a frame records (R16): a relayed frame counts, and the reply named by the pending-reset mark
brings the full reset with the straps sampled (R172). -/
def recordSent (straps : BitVec 2) (f : TxFrame) (s : State) : State :=
  if f.resets then fullReset straps s
  else if f.source = .forward then s.bump .framesForwarded 1
  else s

/-- EGRESS_FRAME_SENT (R16, R172). -/
def execEgressFrameSent (straps : BitVec 2) (s : State) : Host.Outcome State Fault Refusal :=
  match s.link.lpLine with
  | none => .next s
  | some f => .next (recordSent straps f { s with link := { s.link with lpLine := none } })

end Sys2Proof.Machine
end

