-- ==== Sys2Proof/Machine/Assembly.lean ====
section
/-! DEFINITION. The Triad Assembler: SAMPLE_COPY_TAKEN, MALFORMED_NOTICE_TAKEN, STALL_TIMER_EXPIRY and TRIAD_ISSUE
(chapter 2). -/

namespace Sys2Proof.Machine

/-! ### Issue -/

/-- Whether a commit holds the next triad back: one is in progress, or the engine has yet to report after a forced
closure (R150). A notice that already waited before the engine when the commit was executed holds it back too, where R150
speaks of one that comes while the commit is pending (DESIGN CHOICE, log entry 28). -/
def commitHolds (s : State) : Bool :=
  s.commitPending && (decide (s.inProgress ≠ 0) || !s.engine.notices.isEmpty)

/-- The three buffers' heads, when all three hold a sample. -/
def heads (c : PerComp CompState) : Option (PerComp Slot) :=
  match c.z.buffer, c.n.buffer, c.e.buffer with
  | z :: _, n :: _, e :: _ => some ⟨z, n, e⟩
  | _, _, _ => none

/-- The index and alignment time of the next triad and the heads it takes, when the assembler issues one now
(R34, R35, R150). -/
def nextTriad (s : State) : Option (Nat × Nat × PerComp Slot) :=
  match s.asm.phase, heads s.asm.comps with
  | .aligned index alignTime, some h =>
    if s.tables.picker = .running ∧ commitHolds s = false then some (index, alignTime, h) else none
  | _, _ => none

/-- The index after one triad (R33; past 2^48 − 1 it is a free value, log entry 16). -/
def indexAfter (k : Nat) : Nat :=
  if k + 1 < Config.triadIndexEnd then k + 1 else Config.triadIndexPastEnd k

def Slot.toTriad (x : Slot) : TriadSample := ⟨x.value, x.clip, x.bridged⟩

def CompState.dropHead (c : CompState) : CompState := { c with buffer := c.buffer.tail }

/-- TRIAD_ISSUE (R33, R34, R150): the heads leave together as the triad of index k, at alignment time + k × P. -/
def execTriadIssue (s : State) : Host.Outcome State Fault Refusal :=
  match nextTriad s with
  | none => .next s
  | some (index, alignTime, h) =>
    .next { s with
      asm := { s.asm with phase := .aligned (indexAfter index) alignTime, comps := s.asm.comps.map CompState.dropHead }
      bank := { s.bank with
        inbox := s.bank.inbox ++ [⟨index, alignTime + index * s.period, h.map Slot.toTriad⟩] } }

/-! ### Treatment of samples (R21) -/

/-- The negated sample; −8,388,608 becomes 8,388,607 (R21). -/
def invertSample (v : Int) : Int := if v = -8388608 then 8388607 else -v

/-- The treated value and its clip mark (R21). -/
def treat (cfg : StreamCfg) (v : Int) : Sample :=
  let w := if cfg.invert then invertSample v else v
  ⟨w, decide (cfg.clip ≤ w.natAbs)⟩

/-! ### Continuity -/

/-- Samples on the grid from a time onward, a period apart (R22). -/
def gridSlots (period : Nat) (bridged : Bool) : Nat → List Sample → List Slot
  | _, [] => []
  | t, x :: xs => ⟨t, x.value, x.clip, bridged⟩ :: gridSlots period bridged (t + period) xs

/-- What a usable frame comes to: its component's new record and buffer, none when it is wholly unused or when its
buffer would pass 128 samples or its gap the bridge limit (a long gap). -/
inductive Placement where
  | append (c : CompState)
  | unused
  | longGap
deriving DecidableEq, Repr

/-- Append samples that begin at grid time `t`, subject to the capacity check (R28). -/
def appendAt (period t : Nat) (bridge xs : List Sample) (last : Sample) (c : CompState) : Placement :=
  if Config.bufferDepth < c.buffer.length + bridge.length + xs.length then .longGap
  else
    let t' := t + bridge.length * period
    .append
      { anchor := some ⟨t' + xs.length * period, xs.getLastD last⟩
        buffer := c.buffer ++ gridSlots period true t bridge ++ gridSlots period false t' xs }

/-- A usable frame of an unanchored component anchors it at its start time (R23). -/
def anchorAt (period start : Nat) (xs : List Sample) (c : CompState) : Placement :=
  appendAt period start [] xs ⟨0, false⟩ c

/-- How a usable frame of an anchored component lies against its expected time (R25 to R27). -/
inductive Offset where
  | continuous
  | gap (missing : Nat)
  | overlap (dropped : Nat)
deriving DecidableEq, Repr

/-- D = A − E in full signed width, G = floor((D + P/2) / P) and K = floor((−D + P/2) / P) (R25 to R27). -/
def offsetOf (period expected start : Nat) : Offset :=
  let d : Int := (start : Int) - (expected : Int)
  let half : Int := (period : Int) / 2
  if half < d then .gap ((d + half) / (period : Int)).toNat
  else if d < -half then .overlap ((-d + half) / (period : Int)).toNat
  else .continuous

/-- The placing of a usable frame's treated samples (R23, R25 to R28). -/
def place (m : ChannelMap) (start : Nat) (xs : List Sample) (c : CompState) : Placement :=
  let period := periodOf m.rate
  match c.anchor with
  | none => anchorAt period start xs c
  | some a =>
    match offsetOf period a.expected start with
    | .continuous => appendAt period a.expected [] xs a.last c
    | .gap g =>
      if g ≤ m.bridge then appendAt period a.expected (List.replicate g a.last) xs a.last c else .longGap
    | .overlap k =>
      if xs.length ≤ k then .unused else appendAt period a.expected [] (xs.drop k) a.last c

/-- A frame that overlaps samples already accepted (R27). -/
def overlaps (m : ChannelMap) (start : Nat) (c : CompState) : Bool :=
  match c.anchor with
  | none => false
  | some a =>
    match offsetOf (periodOf m.rate) a.expected start with
    | .overlap _ => true
    | .continuous => false
    | .gap _ => false

/-- A frame that comes after a gap (R26). -/
def followsGap (m : ChannelMap) (start : Nat) (c : CompState) : Bool :=
  match c.anchor with
  | none => false
  | some a =>
    match offsetOf (periodOf m.rate) a.expected start with
    | .gap _ => true
    | .continuous => false
    | .overlap _ => false

/-! ### Long gaps and alignment -/

/-- UNSYNCED, every buffer empty, every component unanchored and every last sample forgotten (R22, R30, R37). -/
def clearAssembler (s : State) : State :=
  { s with asm := { s.asm with phase := .unsynced, comps := .all .reset } }

/-- A long gap: flagged, counted, the assembler cleared and the three picking blocks notified (R30, R31). -/
def longGap (s : State) : State :=
  sendNotices .gap (clearAssembler ((s.latch .longGap).bump .longGaps 1))

def State.setComp (c : Comp) (x : CompState) (s : State) : State :=
  { s with asm := { s.asm with comps := s.asm.comps.set c x } }

/-- Drop the samples earlier than T − P/2 (R32, step 1). -/
def trimBuffer (half latest : Nat) (c : CompState) : CompState :=
  { c with buffer := c.buffer.dropWhile (fun x => decide (x.time + half < latest)) }

def max3 (p : PerComp Nat) : Nat := max p.z (max p.n p.e)
def min3 (p : PerComp Nat) : Nat := min p.z (min p.n p.e)

/-- The times of three heads. -/
def headTimes (h : PerComp Slot) : PerComp Nat := h.map (fun x => x.time)

/-- The judgement of alignment in UNSYNCED, made when all three buffers hold a sample (R32, R33). -/
def judgeAlignment (s : State) : State :=
  match s.asm.phase, heads s.asm.comps with
  | .unsynced, some h =>
    let half := s.period / 2
    let trimmed := s.asm.comps.map (trimBuffer half (max3 (headTimes h)))
    let s := { s with asm := { s.asm with comps := trimmed } }
    match heads trimmed with
    | none => s
    | some h' =>
      let times := headTimes h'
      if max3 times - min3 times ≤ half then { s with asm := { s.asm with phase := .aligned 0 h'.z.time } }
      else clearAssembler (s.latch .gridMismatch)
  | _, _ => s

/-- A usable frame of a channel restarts its stall timer and clears its awaited mark (R36). -/
def restartStall (stream : Comp) (s : State) : State :=
  { s with asm := { s.asm with stall := s.asm.stall.set stream ⟨some 0, false⟩ } }

/-- A usable frame placed, with its counts and flags; one that causes a long gap then anchors its own component
(R23, R25 to R30, R32). -/
def takeUsable (comp : Comp) (start : Nat) (xs : List Sample) (s : State) : State :=
  let m := s.chanMap
  let c := s.asm.comps.get comp
  let s := if overlaps m start c then (s.bump .overlaps 1).latch .overlap else s
  match place m start xs c with
  | .append c' =>
    let s := if followsGap m start c then s.bump .bridges 1 else s
    judgeAlignment (s.setComp comp c')
  | .unused => s
  | .longGap =>
    let s := longGap s
    match anchorAt (periodOf m.rate) start xs .reset with
    | .append c' => judgeAlignment (s.setComp comp c')
    | .unused => s
    | .longGap => s

/-- A copy that reaches the assembler, judged against the map active now (R20, R23, R24, R36). -/
def takeCopy (c : SampleCopy) (s : State) : State :=
  match s.streamOf c.channel with
  | none => s
  | some stream =>
    let m := s.chanMap
    if c.rate ≠ m.rate then longGap (s.latch .rateMismatch)
    else
      takeUsable (m.component stream) c.start (c.samples.map (treat (m.streams.get stream))) (restartStall stream s)

/-- SAMPLE_COPY_TAKEN (R20 to R34): the oldest item, once every triad that can be issued has been (R34; log entry 11). -/
def execSampleCopyTaken (s : State) : Host.Outcome State Fault Refusal :=
  match nextTriad s, s.asm.inbox with
  | none, .copy c :: rest => .next (takeCopy c { s with asm := { s.asm with inbox := rest } })
  | _, _ => .next s

/-- MALFORMED_NOTICE_TAKEN (R20, R29): a long gap when the channel is mapped now, nothing otherwise. -/
def execMalformedNoticeTaken (s : State) : Host.Outcome State Fault Refusal :=
  match nextTriad s, s.asm.inbox with
  | none, .malformed id :: rest =>
    let s := { s with asm := { s.asm with inbox := rest } }
    match s.streamOf id with
    | none => .next s
    | some _ => .next (longGap s)
  | _, _ => .next s

/-- An awaited mark set (R36). -/
def Stall.await (t : Stall) : Stall := { t with awaited := true }

/-- STALL_TIMER_EXPIRY (R36): once the stall limit has passed since the last restart, the timer stops, STALL is latched
and all three awaited marks are set. Before that, and with the timer stopped, there is no expiry (log entries 1
and 3). -/
def execStallTimerExpiry (stream : Comp) (s : State) : Host.Outcome State Fault Refusal :=
  if timerExpired s.chanMap.stall (s.asm.stall.get stream).timer then
    let stopped := s.asm.stall.set stream ⟨none, true⟩
    .next (({ s with asm := { s.asm with stall := stopped.map Stall.await } }).latch .stall)
  else .next s

end Sys2Proof.Machine
end

