-- ==== Sys2Proof/Machine/Filter.lean ====
section
/-! DEFINITION. The Band Filter Bank: FILTER_TRIAD, GAP_NOTICE_FILTER and RESTART_FILTER (chapter 3). -/

namespace Sys2Proof.Machine

/-- acc = b0·x + b1·x1 + b2·x2 − a1·y1 − a2·y2, exactly (R41). -/
def accumulate (k : Coeffs) (m : Section) (x : Int) : Int :=
  k.b0 * x + k.b1 * m.x1 + k.b2 * m.x2 - k.a1 * m.y1 - k.a2 * m.y2

/-- floor((acc + 2^21) / 2^22) (R42). -/
def roundAcc (acc : Int) : Int := (acc + 2097152) / 4194304

/-- Saturation to 24 bits (R43). -/
def saturate24 (v : Int) : Int := max (-8388608) (min 8388607 v)

/-- A value, the memory left behind, and whether saturation changed an output on the way. -/
structure Filtered (α : Type) where
  y : Int
  mem : α
  sat : Bool
deriving DecidableEq, Repr

/-- One section on one input: output from the state before it, then the update (R41 to R44). -/
def runSection (k : Coeffs) (m : Section) (x : Int) : Filtered Section :=
  let raw := roundAcc (accumulate k m x)
  let y := saturate24 raw
  ⟨y, ⟨x, m.x1, y, m.y1⟩, decide (y ≠ raw)⟩

/-- The two sections in cascade (R40, R44). -/
def runCascade (cfg : BandCfg) (m : Cascade) (x : Int) : Filtered Cascade :=
  let a := runSection cfg.sec1 m.sec1 x
  let b := runSection cfg.sec2 m.sec2 a.y
  ⟨b.y, ⟨a.mem, b.mem⟩, a.sat || b.sat⟩

/-- One band on one triad: its three filtered values, or nothing while its enable is off (R40, R46). -/
structure BandRun where
  out : Option (PerComp Int)
  mem : PerComp Cascade
  sat : Bool
deriving DecidableEq, Repr

def runBand (cfg : BandCfg) (m : PerComp Cascade) (x : PerComp Int) : BandRun :=
  if cfg.enable then
    let z := runCascade cfg m.z x.z
    let n := runCascade cfg m.n x.n
    let e := runCascade cfg m.e x.e
    ⟨some ⟨z.y, n.y, e.y⟩, ⟨z.mem, n.mem, e.mem⟩, z.sat || n.sat || e.sat⟩
  else ⟨none, m, false⟩

/-- The whole bank on one triad (R40). -/
def runBank (s : State) (t : Triad) : PerBand BandRun :=
  PerBand.of (fun b => runBand (s.bandCfg b) (s.bank.sections.get b) (t.samples.map (fun x => x.value)))

/-- The filtered triad handed on (R40). -/
def filteredTriad (t : Triad) (r : PerBand BandRun) : FilteredTriad where
  index := t.index
  time := t.time
  clip := t.samples.map (fun x => x.clip)
  bridged := t.samples.map (fun x => x.bridged)
  bands := PerBand.of (fun b => (r.get b).out)

/-- FILTER_TRIAD (R40 to R45): the oldest triad, unless a notice sent before it is due first (R47, R48). -/
def execFilterTriad (s : State) : Host.Outcome State Fault Refusal :=
  match s.bank.inbox, dueNotice s.bank.notices with
  | t :: rest, none =>
    let r := runBank s t
    let sat := r.b0.sat || r.b1.sat || r.b2.sat
    .next (({ s with
      bank :=
        { inbox := rest
          notices := countTriad s.bank.notices
          sections := PerBand.of (fun b => (r.get b).mem)
          saturating := sat }
      array := { s.array with inbox := s.array.inbox ++ [filteredTriad t r] } }).latchIf sat .filterSat)
  | _, _ => .next s

/-- Every section of every band cleared and FILTER_SATURATING ended (R47 to R49). -/
def clearFilters (s : State) : State :=
  { s with bank := { s.bank with sections := PerBand.of (fun _ => PerComp.cleared), saturating := false } }

/-- A notice of the kind taken by the bank, when it is due. -/
def bankNotice (k : NoticeKind) (s : State) : State :=
  match takeNotice k s.bank.notices with
  | none => s
  | some rest => clearFilters { s with bank := { s.bank with notices := rest } }

/-- GAP_NOTICE_FILTER (R47). -/
def execGapNoticeFilter (s : State) : Host.Outcome State Fault Refusal := .next (bankNotice .gap s)

/-- RESTART_FILTER (R48). -/
def execRestartFilter (s : State) : Host.Outcome State Fault Refusal := .next (bankNotice .restart s)

end Sys2Proof.Machine
end

