-- ==== Sys2Proof/Machine/Detectors.lean ====
section
/-! DEFINITION. The Detector Array: DETECTOR_TRIAD, GAP_NOTICE_DETECTOR and RESTART_DETECTOR (chapter 4). -/

namespace Sys2Proof.Machine

/-! ### Characteristic functions (R52, R53) -/

def cfVertical (shift : Nat) (y : PerComp Int) : Nat := min (y.z.natAbs ^ 2 / 2 ^ shift) max32

def cfHorizontal (shift : Nat) (y : PerComp Int) : Nat :=
  min ((y.n.natAbs ^ 2 + y.e.natAbs ^ 2) / 2 ^ shift) max32

/-! ### One detector on one triad -/

/-- An average moved toward a CF value by floor((cf − average) / 2^k) (R57). -/
def average (avg k cf : Nat) : Nat := ((avg : Int) + ((cf : Int) - (avg : Int)) / ((2 ^ k : Nat) : Int)).toNat

/-- What a detector's action brings (R58). -/
inductive DetEvent where
  | quiet
  | trigger (lh : Nat)
  | longRelease
deriving DecidableEq, Repr

/-- A detector in WARMING: the seed, then the updates, then IDLE when the countdown reaches 0 (R56). -/
def warmingTurn (p : Profile) (cf : Nat) (d : Detector) : Detector :=
  if d.seedPending then { d with sta := cf, lta := cf, countdown := p.warmUp, seedPending := false }
  else
    { d with
      sta := average d.sta p.ks cf
      lta := average d.lta p.kl cf
      countdown := d.countdown - 1
      state := if d.countdown - 1 = 0 then .idle else .warming }

/-- The effective long-term average of a trigger test (R59). -/
def leff (p : Profile) (d : Detector) : Nat := max d.lta p.floor

/-- A detector in IDLE (R59, R60). -/
def idleTurn (p : Profile) (cf : Nat) (d : Detector) : Detector × DetEvent :=
  let sta := average d.sta p.ks cf
  if leff p d * p.thrOn ≤ sta * 16 then
    ({ d with state := .on, sta := sta, lh := leff p d, onCount := 1 }, .trigger (leff p d))
  else ({ d with sta := sta, lta := average d.lta p.kl cf }, .quiet)

/-- A detector in ON: the release test, then the long-trigger test (R61, R62). -/
def onTurn (p : Profile) (cf : Nat) (d : Detector) : Detector × DetEvent :=
  let sta := average d.sta p.ks cf
  if sta * 16 ≤ d.lh * p.thrOff then ({ d with state := .idle, sta := sta, lh := 0, onCount := 0 }, .quiet)
  else if d.onCount < p.maxOn then ({ d with sta := sta, onCount := d.onCount + 1 }, .quiet)
  else ({ d with state := .idle, sta := sta, lta := sta, lh := 0, onCount := 0 }, .longRelease)

/-- A detector's action for one triad (R56, R58 to R62). -/
def detectorTurn (p : Profile) (cf : Nat) (d : Detector) : Detector × DetEvent :=
  match d.state with
  | .off => (d, .quiet)
  | .warming => (warmingTurn p cf d, .quiet)
  | .idle => idleTurn p cf d
  | .on => onTurn p cf d

/-! ### The array on one triad -/

/-- One band's part of the results: its filtered values and the entry for its ring (R65, R71). -/
def bandOut (cfg : BandCfg) (t : FilteredTriad) (y : PerComp Int) : BandOut :=
  ⟨y, ⟨t.index, y.z, cfVertical cfg.vShift y, cfHorizontal cfg.hShift y, t.clip, t.bridged⟩⟩

def bandOuts (s : State) (t : FilteredTriad) : PerBand (Option BandOut) :=
  PerBand.of (fun b => (t.bands.get b).map (bandOut (s.bandCfg b) t))

/-- A detector's own CF in a ring entry (R52). -/
def entryCf (k : Kind) (e : RingEntry) : Nat :=
  match k with
  | .v => e.cfV
  | .h => e.cfH

/-- A detector's action, when it runs and its band is in the triad (R54, R58). -/
def detOutcome (s : State) (outs : PerBand (Option BandOut)) (d : Det) : Detector × DetEvent :=
  match outs.get d.band with
  | none => (s.array.dets.get d, .quiet)
  | some o =>
    if detRuns s.tables.active.band d then
      detectorTurn (s.profile d) (entryCf d.kind o.entry) (s.array.dets.get d)
    else (s.array.dets.get d, .quiet)

/-- A ring with one more entry, the oldest removed when it holds 128 (R72). -/
def ringAdd (e : RingEntry) (ring : List RingEntry) : List RingEntry :=
  if ring.length < Config.ringDepth then ring ++ [e] else ring.tail ++ [e]

def ringWrite (o : Option BandOut) (ring : List RingEntry) : List RingEntry :=
  match o with
  | none => ring
  | some x => ringAdd x.entry ring

/-- The triggers of a triad in the order V0, H0, V1, H1, V2, H2 (R65). -/
def triggersOf (index : Nat) (r : PerDet (Detector × DetEvent)) : List Trigger :=
  Det.all.filterMap (fun d =>
    match (r.get d).2 with
    | .trigger lh => some ⟨d, index, lh⟩
    | .quiet => none
    | .longRelease => none)

/-- The bands named by the long-trigger notices of a triad (R63). -/
def longsOf (r : PerDet (Detector × DetEvent)) : List Band :=
  Det.all.filterMap (fun d =>
    match (r.get d).2 with
    | .longRelease => some d.band
    | .quiet => none
    | .trigger _ => none)

/-- The results of a triad (R65). -/
def resultsOf (t : FilteredTriad) (outs : PerBand (Option BandOut)) (r : PerDet (Detector × DetEvent)) : Results where
  index := t.index
  time := t.time
  bands := outs
  states := PerDet.of (fun d => (r.get d).1.state)
  triggers := triggersOf t.index r
  longs := longsOf r

/-- The rings are held as they stand while the engine has triggers to search in them (R73; log entry 10). -/
def ringsHeld (s : State) : Bool := s.engine.inbox.any (fun r => !r.triggers.isEmpty)

/-- DETECTOR_TRIAD (R52 to R65, R71 to R73): the oldest filtered triad, unless a notice sent before it is due first or
the rings are held. -/
def execDetectorTriad (s : State) : Host.Outcome State Fault Refusal :=
  match s.array.inbox, dueNotice s.array.notices, ringsHeld s with
  | t :: rest, none, false =>
    let outs := bandOuts s t
    let r := PerDet.of (detOutcome s outs)
    let res := resultsOf t outs r
    let s' := { s with
      array :=
        { inbox := rest
          notices := countTriad s.array.notices
          dets := PerDet.of (fun d => (r.get d).1)
          rings := PerBand.of (fun b => ringWrite (outs.get b) (s.array.rings.get b)) }
      engine := { s.engine with inbox := s.engine.inbox ++ [res] } }
    .next ((s'.bump .triggers res.triggers.length).latchIf (!res.longs.isEmpty) .longTrigger)
  | _, _, _ => .next s

/-! ### Restarts -/

/-- The entry to WARMING, from any state (R55). -/
def Detector.warm : Detector := ⟨.warming, 0, 0, true, 0, 0, 0⟩

/-- Every running detector enters WARMING, every other is OFF, and the rings are emptied (R55, R74). -/
def restartDetectors (s : State) : State :=
  { s with
    array := { s.array with
      dets := PerDet.of (fun d => if detRuns s.tables.active.band d then Detector.warm else Detector.off)
      rings := ⟨[], [], []⟩ } }

/-- A notice of the kind taken by the array, when it is due and no search needs the rings (R55, R73, R74). -/
def arrayNotice (k : NoticeKind) (s : State) : State :=
  match takeNotice k s.array.notices, ringsHeld s with
  | some rest, false => restartDetectors { s with array := { s.array with notices := rest } }
  | _, _ => s

/-- GAP_NOTICE_DETECTOR (R55). -/
def execGapNoticeDetector (s : State) : Host.Outcome State Fault Refusal := .next (arrayNotice .gap s)

/-- RESTART_DETECTOR (R55). -/
def execRestartDetector (s : State) : Host.Outcome State Fault Refusal := .next (arrayNotice .restart s)

end Sys2Proof.Machine
end

