-- ==== Sys2Proof/Machine/Onset.lean ====
section
/-! DEFINITION. The Onset Unit: the back-search and the merge check (sections 5.1 and 5.2), and the order in which
contexts stand by their onsets (R96). -/

namespace Sys2Proof.Machine

/-! ### Slots of the pool -/

def State.ctx (s : State) (i : Fin 8) : Option Context := s.engine.pool.get i

def State.setCtx (i : Fin 8) (c : Option Context) (s : State) : State :=
  { s with engine := { s.engine with pool := s.engine.pool.set i c } }

def onsetOf (c : Option Context) : Nat :=
  match c with
  | none => 0
  | some x => x.onset

/-- Insert a slot behind every slot whose onset is not later. -/
def insertByOnset (key : Fin 8 → Nat) (i : Fin 8) : List (Fin 8) → List (Fin 8)
  | [] => [i]
  | j :: js => if key i < key j then i :: j :: js else j :: insertByOnset key i js

/-- The slots that are not FREE in onset order: oldest first, of equal onsets the lower slot first (R96). -/
def onsetOrder (pool : Vector (Option Context) 8) : List (Fin 8) :=
  (slots.filter (fun i => (pool.get i).isSome)).foldl
    (fun acc i => insertByOnset (fun j => onsetOf (pool.get j)) i acc) []

/-! ### The back-search (R77 to R80) -/

/-- What a search finds. -/
structure Found where
  onset : Nat
  quality : Nat
  truncated : Bool
deriving DecidableEq, Repr

/-- The entry of an index, when the ring holds it (R72). -/
def ringFind (ring : List RingEntry) (i : Nat) : Option RingEntry := ring.find? (fun e => decide (e.index = i))

/-- An entry is quiet when its CF × 16 is at or below Lh × onset factor (R78). -/
def quietEntry (kind : Kind) (lh factor : Nat) (e : RingEntry) : Bool := decide (entryCf kind e * 16 ≤ lh * factor)

/-- The search from `cur`, the last index examined (at first the trigger's own, which is not examined), over at most
`left` older entries: the onset index, and whether it is TRUNCATED (R78 to R80). -/
def backSearch (ring : List RingEntry) (kind : Kind) (lh factor : Nat) : Nat → Nat → Nat × Bool
  | 0, cur => (cur, true)
  | left + 1, cur =>
    if cur = 0 then (cur, true)
    else
      match ringFind ring (cur - 1) with
      | none => (cur, true)
      | some e =>
        if quietEntry kind lh factor e then (cur, false)
        else backSearch ring kind lh factor left (cur - 1)

/-- The search of one trigger in its band's ring under its detector's profile (R77, R78, R82). -/
def searchOnset (s : State) (t : Trigger) : Found :=
  let p := s.profile t.det
  let r := backSearch (s.array.rings.get t.det.band) t.det.kind t.lh p.onsetFactor p.depth t.index
  ⟨r.1, t.index - r.1, r.2⟩

/-! ### The merge check (R83, R84) -/

/-- The onset a context is compared by for a trigger of a kind; none when the two are not compared (R83). -/
def comparedOnset (k : Kind) (c : Context) : Option Nat :=
  match k with
  | .v => if c.kind = .v then some c.onset else none
  | .h =>
    match c.sPart with
    | some sp => some sp.onset
    | none => if c.kind = .h then some c.onset else none

def natDist (a b : Nat) : Nat := (a - b) + (b - a)

/-- A context that matches a trigger: its distance, its compared onset and its slot. -/
structure Match where
  dist : Nat
  onset : Nat
  slot : Fin 8
deriving DecidableEq, Repr

/-- The match of one slot, when its compared onset lies within the merge interval (R83). -/
def matchOf (merge : Nat) (k : Kind) (onset : Nat) (i : Fin 8) (c : Option Context) : Option Match :=
  match c with
  | none => none
  | some x =>
    match comparedOnset k x with
    | none => none
    | some o => if natDist o onset ≤ merge then some ⟨natDist o onset, o, i⟩ else none

/-- `b` is preferred to the match `a` of a lower slot: nearer, or as near and earlier (R84). -/
def Match.beats (b a : Match) : Bool := decide (b.dist < a.dist ∨ (b.dist = a.dist ∧ b.onset < a.onset))

/-- The better of the match found so far and the next slot's. -/
def Match.choose (best next : Option Match) : Option Match :=
  match best, next with
  | none, n => n
  | some a, none => some a
  | some a, some b => if b.beats a then some b else some a

/-- The slot a trigger merges into, if any (R84). -/
def mergeTarget (s : State) (k : Kind) (onset : Nat) : Option (Fin 8) :=
  (slots.foldl (fun best i => Match.choose best (matchOf s.rules.merge k onset i (s.ctx i))) none).map Match.slot

end Sys2Proof.Machine
end

