-- ==== Sys2Proof/Machine/Pool.lean ====
section
/-! DEFINITION. What the Context Engine does with contexts: event numbers, records, measurement windows, resolution,
closing and forced closure (chapters 5 to 7). -/

namespace Sys2Proof.Machine

/-! ### Event numbers (R102) -/

/-- A context's number when it is in OPEN or CODA. -/
def heldNumber (c : Option Context) : Option Nat :=
  match c with
  | none => none
  | some x => match x.state with
    | .measure => none
    | .open_ => some x.event
    | .coda => some x.event

def heldNumbers (s : State) : List Nat := slots.filterMap (fun i => heldNumber (s.ctx i))

/-- The counter plus one, or 1 after 65,535. -/
def successor (n : Nat) : Nat := if 65535 ≤ n then 1 else n + 1

/-- The first number after the counter that no context holds; the ninth try is the last (R102). -/
def nextNumber (held : List Nat) : Nat → Nat → Nat
  | 0, n => successor n
  | tries + 1, n => if held.contains (successor n) then nextNumber held tries (successor n) else successor n

/-- The number the next own event or bare onset takes (R102). -/
def State.freshNumber (s : State) : Nat := nextNumber (heldNumbers s) 8 s.engine.counter

/-- The number taken is written into the event counter (R102). -/
def State.setCounter (n : Nat) (s : State) : State := { s with engine := { s.engine with counter := n } }

/-! ### Records (R125 to R131) -/

/-- An own event's ONSET record (R127). -/
def ownOnset (i : Fin 8) (phase : Phase) (c : Context) : Record :=
  .onset
    { event := c.event, slot := i.val, phase := phase, time := c.onsetTime, quality := c.quality, mask := c.mask,
      kind := c.kind, flags := ⟨c.truncated, c.bridged, c.clip⟩, noContext := false, incomplete := false,
      single := false,
      measurement := some ⟨c.window.polarity, c.window.polarityClipped, c.window.ez, c.window.eh⟩ }

/-- A bare ONSET record (R128). -/
def bareOnset (event slot : Nat) (time quality : Nat) (mask : PerBand Bool) (kind : Kind)
    (truncated noContext incomplete : Bool) : Record :=
  .onset
    { event := event, slot := slot, phase := .u, time := time, quality := quality, mask := mask, kind := kind,
      flags := ⟨truncated, false, .all false⟩, noContext := noContext, incomplete := incomplete, single := true,
      measurement := none }

/-- A SECOND record (R129). -/
def secondRecord (event : Nat) (p : SPart) : Record :=
  .second ⟨event, p.time, p.quality, p.mask, p.ez, p.eh, ⟨p.truncated, p.bridged, p.clip⟩⟩

/-- A CLOSE record in full (R116, R130). -/
def closeRecord (cause : Cause) (c : Context) : Record :=
  .close
    { event := c.event, cause := cause, duration := c.life, sPresent := c.sPart.isSome, sAbsent := c.sAbsent,
      secondaries := c.secondaries, flags := ⟨c.truncated, c.bridged, c.clip⟩, long := c.long, short := false,
      peaks := some c.peaks }

/-- A context closed with a cause: its CLOSE record, then FREE (R116). -/
def closeContext (cause : Cause) (i : Fin 8) (c : Context) (s : State) : State :=
  (admitRecord (closeRecord cause c) s).setCtx i none

/-- A bare onset generated and counted under a new number (R101, R113). -/
def generateBare (slot time quality : Nat) (mask : PerBand Bool) (kind : Kind)
    (truncated noContext incomplete : Bool) (s : State) : State :=
  let n := s.freshNumber
  (admitRecord (bareOnset n slot time quality mask kind truncated noContext incomplete) (s.setCounter n)).bump .bareOnsets 1

/-! ### The measurement window (R87 to R91) -/

/-- The window's last index (R87). -/
def windowLast (r : Rules) (onset : Nat) : Nat := onset + r.fmWindow - 1

/-- The entry qualifies as a first motion (R90). -/
def qualifies (r : Rules) (lh : Nat) (e : RingEntry) : Bool := decide (lh * r.fmFactor ≤ e.cfV * 16)

/-- The polarity after one entry, with its clipped mark (R90). -/
def motionTest (r : Rules) (lh : Option Nat) (e : RingEntry) (w : Window) : Window :=
  match w.polarity, lh with
  | .pending, some l =>
    if qualifies r l e then
      if 0 < e.yZ then { w with polarity := .up, polarityClipped := e.clip.z }
      else if e.yZ < 0 then { w with polarity := .down, polarityClipped := e.clip.z }
      else w
    else w
  | _, _ => w

/-- One window entry summed: both sums, the count, the polarity test and the marks (R88 to R91). -/
def sumEntry (r : Rules) (c : Context) (e : RingEntry) : Context :=
  let w := motionTest r c.lh e c.window
  { c with
    window := { w with
      ez := min (w.ez + e.cfV) max48
      eh := min (w.eh + e.cfH) max48
      counted := w.counted + 1 }
    clip := c.clip.or e.clip
    bridged := c.bridged || e.bridged.any }

/-! ### Classification and resolution (R92, R104 to R108) -/

def passesP (r : Rules) (w : Window) : Bool := decide (r.pRatio * w.eh ≤ w.ez * 16)

def passesS (r : Rules) (w : Window) : Bool := decide (r.sRatio * w.ez ≤ w.eh * 16)

/-- The class of a completed candidate (R92). -/
def classify (r : Rules) (kind : Kind) (w : Window) : Phase :=
  match kind with
  | .v => if passesP r w then .p else if passesS r w then .s else .u
  | .h => if passesS r w then .s else if passesP r w then .p else .u

/-- A polarity still pending at completion becomes UNKNOWN, its clipped mark clear (R90). -/
def finishPolarity (w : Window) : Window :=
  match w.polarity with
  | .pending => { w with polarity := .unknown, polarityClipped := false }
  | .absent => w
  | .up => w
  | .down => w
  | .unknown => w

/-- A context can be the parent of an onset: phase P in OPEN or CODA, and the onset in its S window (R104). -/
def canParent (r : Rules) (onset : Nat) (c : Option Context) : Bool :=
  match c with
  | none => false
  | some x =>
    decide (x.state ≠ .measure ∧ x.phase = some .p ∧ x.onset + r.sMin ≤ onset ∧ onset ≤ x.onset + r.sMax)

/-- The oldest context but the candidate's own that can be its parent (R104). -/
def parentOf (s : State) (i : Fin 8) (onset : Nat) : Option (Fin 8) :=
  (onsetOrder s.engine.pool).find? (fun j => decide (j ≠ i) && canParent s.rules onset (s.ctx j))

/-- A candidate becomes an own event of a phase, in OPEN or CODA (R105, R108). -/
def ownEvent (phase : Phase) (state : CtxState) (i : Fin 8) (c : Context) (s : State) : State :=
  let n := s.freshNumber
  let c := { c with
    state := state, event := n, phase := some phase, parent := none, sPart := none, sAbsent := false,
    secondaries := 0, peaks := .all ⟨0, 0⟩, codaCount := 0 }
  admitRecord (ownOnset i phase c) ((s.setCounter n).setCtx i (some c))

/-- The S part that an attached candidate fills (R106). -/
def sPartOf (c : Context) : SPart :=
  ⟨c.onset, c.onsetTime, c.quality, c.mask, c.window.ez, c.window.eh, c.truncated, c.bridged, c.clip⟩

/-- What a parent gains from any candidate that joins it: bands, BRIDGED, CLIP and LONG (R106, R107). -/
def gain (c p : Context) : Context :=
  { p with mask := p.mask.or c.mask, bridged := p.bridged || c.bridged, clip := p.clip.or c.clip, long := p.long || c.long }

/-- S attached to its parent: SECOND generated, the parent in CODA with its count at 0 and S-absent clear, the candidate
FREE (R106). -/
def attachS (i j : Fin 8) (c p : Context) (s : State) : State :=
  let p := { gain c p with sPart := some (sPartOf c), state := .coda, codaCount := 0, sAbsent := false }
  (admitRecord (secondRecord p.event (sPartOf c)) (s.setCtx j (some p))).setCtx i none

/-- A candidate absorbed as a secondary of its parent, and FREE (R107). -/
def absorb (i j : Fin 8) (c p : Context) (s : State) : State :=
  (s.setCtx j (some { gain c p with secondaries := min (p.secondaries + 1) 255 })).setCtx i none

/-- The resolution of a classified candidate by its class and its parent (R104). -/
def resolveAs (cls : Phase) (i : Fin 8) (c : Context) (s : State) : State :=
  match cls, c.parent with
  | .p, _ => ownEvent .p .open_ i c s
  | .s, some j =>
    match s.ctx j with
    | none => ownEvent .s .coda i c s
    | some p => match p.sPart with
      | none => attachS i j c p s
      | some _ => absorb i j c p s
  | .u, some j =>
    match s.ctx j with
    | none => ownEvent .u .coda i c s
    | some p => absorb i j c p s
  | .s, none => ownEvent .s .coda i c s
  | .u, none => ownEvent .u .coda i c s

/-- A completed candidate is classified, its parent looked for, and resolved (R92, R104 to R108). -/
def complete (i : Fin 8) (c : Context) (s : State) : State :=
  let cls := classify s.rules c.kind c.window
  resolveAs cls i { c with window := finishPolarity c.window, parent := parentOf s i c.onset } s

/-! ### Forced closure (R113) -/

/-- One context of a forced closure: closed with the cause, or turned into a bare INCOMPLETE onset (R113). -/
def forceContext (cause : Cause) (s : State) (i : Fin 8) : State :=
  match s.ctx i with
  | none => s
  | some c =>
    match c.state with
    | .measure =>
      (generateBare i.val c.onsetTime c.quality c.mask c.kind c.truncated false true s).setCtx i none
    | .open_ => closeContext cause i c s
    | .coda => closeContext cause i c s

/-- Every context taken in onset order; the pool is empty afterwards (R113). -/
def forcedClosure (cause : Cause) (s : State) : State :=
  (onsetOrder s.engine.pool).foldl (forceContext cause) s

/-- Every context is FREE (R121). -/
def State.poolEmpty (s : State) : Bool := slots.all (fun i => (s.ctx i).isNone)

end Sys2Proof.Machine
end

