-- ==== Sys2Proof/Machine/Commit.lean ====
section
/-! DEFINITION. The swap and what follows it, the reports that bring one, and COMMIT_WAIT_EXPIRY (section 8.4). -/

namespace Sys2Proof.Machine

/-! ### The dirty set (R148) -/

/-- A table is dirty when its active image is invalid or differs from its shadow in any byte (R148). -/
def tableDirty (s : State) (t : Table) : Bool :=
  !(s.tables.valid.get t) || decide (s.tables.shadow.get t ≠ s.tables.active.get t)

/-- The dirty set holds the Band Table or the Channel Map (R148). -/
def needsBandReset (s : State) : Bool := tableDirty s .band || tableDirty s .chan

/-! ### Swap and band reset -/

/-- The four images become active in one step, the marks are set, SWAPPED is latched, the commit ends, and the picker
is RUNNING (R149, R157). -/
def swapTables (s : State) : State :=
  ({ s with
    tables := { s.tables with
      active := s.tables.shadow
      valid := ⟨true, true, true, true⟩
      commit := .none
      picker := .running } }).latch .swapped

/-- A detector ON whose on_count exceeds the new max_on has it lowered (R69). -/
def lowerOnCount (maxOn : Nat) (d : Detector) : Detector :=
  if d.state = .on then { d with onCount := min d.onCount maxOn } else d

/-- The detectors at a swap without band reset, under the new profiles (R68, R69). -/
def adjustDetectors (s : State) : State :=
  { s with
    array := { s.array with
      dets := PerDet.of (fun d => lowerOnCount (s.profile d).maxOn (s.array.dets.get d)) } }

/-- A swap without band reset (R151). -/
def swapPlain (s : State) : State := adjustDetectors (swapTables s)

/-- The assembler reset and the stall timers restarted after a Channel Map change (R36, R37, R152). -/
def resetForMap (s : State) : State :=
  let s := clearAssembler s
  { s with asm := { s.asm with stall := .all ⟨some 0, false⟩ } }

/-- The band reset that follows a swap of the Band Table or the Channel Map (R152). -/
def bandReset (mapChanged : Bool) (s : State) : State :=
  let s := restartDetectors (clearFilters s)
  if mapChanged then resetForMap s else s

/-- A swap followed by a band reset (R149, R152). -/
def swapWithReset (s : State) : State := bandReset (tableDirty s .chan) (swapTables s)

/-- A forced swap: forced closure with cause RECONFIG under the old tables, swap, band reset, COMMIT_FORCED (R154). -/
def forcedSwap (s : State) : State := (swapWithReset (forcedClosure .reconfig s)).latch .commitForced

/-! ### Reports (R121) -/

/-- The commit enters FORCE_DUE behind the notices that already wait before the engine (R154). -/
def enterForceDue (s : State) : State :=
  { s with tables := { s.tables with commit := .forceDue s.engine.notices.length } }

/-- Whether some notice before the engine came in FORCE_DUE (R154). -/
def cameInForceDue (earlier : Nat) (s : State) : Bool := decide (earlier < s.engine.notices.length)

/-- The engine's report to the Table Bank, at the end of a triad or of a forced closure; `own` when the closure was that
of a notice that came in FORCE_DUE. A pending commit swaps at the report on the last triad in progress (R150, R151, R153,
R154; log entry 12); but a swap that is due waits for the report after the forced closure of a gap or a restart that came
in FORCE_DUE (R154; log entry 13). -/
def report (own : Bool) (s : State) : State :=
  if s.inProgress ≠ 0 then s
  else
    match s.tables.commit with
    | .none => s
    | .nextBoundary => swapPlain s
    | .quietWait _ _ => if s.poolEmpty then swapWithReset s else s
    | .forceDue earlier => if !own && cameInForceDue earlier s then s else forcedSwap s

/-- COMMIT_WAIT_EXPIRY (R154): once the wait limit has passed, forced at once with no triad in progress, FORCE_DUE
otherwise. Before that, and outside QUIET_WAIT with its timer stopped, there is no expiry (log entries 1 and 3). -/
def execCommitWaitExpiry (s : State) : Host.Outcome State Fault Refusal :=
  match s.tables.commit with
  | .quietWait limit elapsed =>
    if elapsed < limit then .next s
    else if s.inProgress = 0 then .next (forcedSwap s)
    else .next (enterForceDue s)
  | .none => .next s
  | .nextBoundary => .next s
  | .forceDue _ => .next s

end Sys2Proof.Machine
end

