-- ==== Sys2Proof/Machine/Engine.lean ====
section
/-! DEFINITION. The Context Engine on a triad and on notices: ENGINE_TRIAD, GAP_NOTICE_ENGINE and RESTART_ENGINE
(chapter 6). -/

namespace Sys2Proof.Machine

/-! ### Phase 1: the contexts (R98, R103, R109 to R115) -/

/-- A context's life count and LONG flag at triad k (R103, R109, R111, R112). -/
def takeTriad (r : Results) (c : Context) : Context :=
  { c with life := r.index - c.onset, long := c.long || r.longs.any (fun b => c.mask.get b) }

/-- A component's peak after one filtered value (R110). -/
def peakAfter (offset : Nat) (y : Int) (p : Peak) : Peak :=
  if p.magnitude < y.natAbs then ⟨y.natAbs, offset⟩ else p

/-- The peaks at triad k, in the onset band (R110). -/
def updatePeaks (r : Results) (c : Context) : Context :=
  match r.bands.get c.band with
  | none => c
  | some o =>
    let k := r.index - c.onset
    { c with peaks := ⟨peakAfter k o.y.z c.peaks.z, peakAfter k o.y.n c.peaks.n, peakAfter k o.y.e c.peaks.e⟩ }

/-- A context in MEASURE at triad k: entry k summed while it lies in the window, and completion at the last index or
beyond it (R89, R103). -/
def measureTurn (r : Results) (i : Fin 8) (c : Context) (s : State) : State :=
  let last := windowLast s.rules c.onset
  let c := takeTriad r c
  let c :=
    if r.index ≤ last then
      match r.bands.get c.band with
      | none => c
      | some o => sumEntry s.rules c o.entry
    else c
  if last ≤ r.index then complete i c s else s.setCtx i (some c)

/-- The life test (R115). -/
def lifeTest (i : Fin 8) (c : Context) (s : State) : State :=
  if s.rules.maxEvent ≤ c.life then closeContext .life i c s else s.setCtx i (some c)

/-- The end of the S wait (R109). -/
def sWaitTest (rules : Rules) (k : Nat) (c : Context) : Context :=
  if c.onset + rules.sMax + rules.fmWindow ≤ k then { c with state := .coda, sAbsent := true, codaCount := 0 } else c

/-- A context in OPEN at triad k (R109). -/
def openTurn (r : Results) (i : Fin 8) (c : Context) (s : State) : State :=
  lifeTest i (sWaitTest s.rules r.index (takeTriad r (updatePeaks r c))) s

/-- A detector of some band of the mask is reported ON (R114). -/
def heldBack (r : Results) (mask : PerBand Bool) : Bool :=
  Det.all.any (fun d => mask.get d.band && decide (r.states.get d = .on))

/-- The coda count after one triad (R114). -/
def codaStep (r : Results) (c : Context) : Context :=
  { c with codaCount := if heldBack r c.mask then 0 else c.codaCount + 1 }

/-- A context in CODA at triad k (R112). -/
def codaTurn (r : Results) (i : Fin 8) (c : Context) (s : State) : State :=
  let c := codaStep r (takeTriad r (updatePeaks r c))
  if s.rules.codaHold ≤ c.codaCount then closeContext .quiet i c s else lifeTest i c s

/-- One context's turn, by the state it holds when its turn comes (R98). -/
def contextTurn (r : Results) (s : State) (i : Fin 8) : State :=
  match s.ctx i with
  | none => s
  | some c =>
    match c.state with
    | .measure => measureTurn r i c s
    | .open_ => openTurn r i c s
    | .coda => codaTurn r i c s

/-- Phase 1: the contexts in the onset order of the pool as it stood (R98). -/
def takeContexts (r : Results) (s : State) : State := (onsetOrder s.engine.pool).foldl (contextTurn r) s

/-! ### Phase 2: the triggers (R84, R99 to R101) -/

/-- A trigger merged into a context: its band joins the mask (R84). -/
def mergeInto (i : Fin 8) (b : Band) (s : State) : State :=
  match s.ctx i with
  | none => s
  | some c => s.setCtx i (some { c with mask := c.mask.or (.single b) })

/-- The context that a trigger's allocation sets up (R87, R99). -/
def newContext (t : Trigger) (f : Found) (time : Nat) : Context where
  state := .measure
  event := 0
  phase := none
  kind := t.det.kind
  band := t.det.band
  onset := f.onset
  onsetTime := time
  quality := f.quality
  mask := .single t.det.band
  lh := match t.det.kind with
    | .v => some t.lh
    | .h => none
  window := ⟨0, 0, 0, (match t.det.kind with | .v => .pending | .h => .absent), false⟩
  parent := none
  sPart := none
  sAbsent := false
  secondaries := 0
  peaks := .all ⟨0, 0⟩
  truncated := f.truncated
  bridged := false
  clip := .all false
  long := false
  codaCount := 0
  life := t.index - f.onset

/-- The ring entries of the window that a trigger finds written, oldest first (R88). -/
def windowEntries (rules : Rules) (ring : List RingEntry) (t : Trigger) (f : Found) : List RingEntry :=
  ring.filter (fun e => decide (f.onset ≤ e.index ∧ e.index ≤ t.index ∧ e.index ≤ windowLast rules f.onset))

/-- A slot allocated to a trigger: the context set up, the window's entries in the ring summed, and the candidate
resolved at once when that completes the window (R88, R99). -/
def allocateAt (i : Fin 8) (t : Trigger) (f : Found) (time : Nat) (s : State) : State :=
  let entries := windowEntries s.rules (s.array.rings.get t.det.band) t f
  let c := entries.foldl (sumEntry s.rules) (newContext t f time)
  let s := { s with engine := { s.engine with ptr := i } }.setCtx i (some c)
  if windowLast s.rules f.onset ≤ t.index then complete i c s else s

/-- The first FREE slot round-robin, from the slot after the one the allocation pointer names (R99). -/
def freeSlot (s : State) : Option (Fin 8) :=
  (slots.map (fun k => s.engine.ptr + 1 + k)).find? (fun i => (s.ctx i).isNone)

/-- The CODA context with the oldest onset (R100). -/
def oldestCoda (s : State) : Option (Fin 8) :=
  (onsetOrder s.engine.pool).find? (fun i =>
    match s.ctx i with
    | none => false
    | some c => decide (c.state = .coda))

/-- A CODA context evicted, counted and flagged (R100). -/
def evict (i : Fin 8) (s : State) : State :=
  match s.ctx i with
  | none => s
  | some c => ((closeContext .evicted i c s).bump .evictions 1).latch .eviction

/-- Allocation: a FREE slot, else the oldest CODA context's, else a bare onset without a context (R99 to R101). -/
def allocate (t : Trigger) (f : Found) (time : Nat) (s : State) : State :=
  match freeSlot s with
  | some i => allocateAt i t f time s
  | none =>
    match oldestCoda s with
    | some i => allocateAt i t f time (evict i s)
    | none =>
      (generateBare 8 time f.quality (.single t.det.band) t.det.kind f.truncated true false s).latch .noContext

/-- The grid time of an onset, `quality` triads before the trigger's triad, in 64 bits (R81, R126; log entry 25). -/
def onsetTime (period : Nat) (r : Results) (f : Found) : Nat := (r.time - f.quality * period) % 2 ^ 64

/-- One trigger: search, merge check, and allocation when it does not merge (R77, R84). -/
def takeTrigger (r : Results) (s : State) (t : Trigger) : State :=
  let f := searchOnset s t
  match mergeTarget s t.det.kind f.onset with
  | some i => mergeInto i t.det.band s
  | none => allocate t f (onsetTime s.period r f) s

/-- Phase 2: the triggers in the order of the results (R85, R98). -/
def takeTriggers (r : Results) (s : State) : State := r.triggers.foldl (takeTrigger r) s

/-- The three phases of a triad (R98). -/
def engineTurn (r : Results) (s : State) : State := report false (takeTriggers r (takeContexts r s))

/-- ENGINE_TRIAD (R98): the oldest results, unless a notice sent before them is due first. -/
def execEngineTriad (s : State) : Host.Outcome State Fault Refusal :=
  match s.engine.inbox, dueNotice s.engine.notices with
  | r :: rest, none =>
    .next (engineTurn r { s with
      engine := { s.engine with inbox := rest, notices := countTriad s.engine.notices } })
  | _, _ => .next s

/-! ### Notices (R117, R118) -/

/-- The commit state as the engine takes its oldest notice: FORCE_DUE has one less that waited as it was entered. -/
def CommitState.noticeTaken : CommitState → CommitState
  | .none => .none
  | .nextBoundary => .nextBoundary
  | .quietWait limit elapsed => .quietWait limit elapsed
  | .forceDue earlier => .forceDue (earlier - 1)

/-- A notice of the kind taken by the engine, when it is due: the forced closure, then the report (R117, R118, R121). In
FORCE_DUE the notice came in that state when none that waited as it was entered still stands before it (R154). -/
def engineNotice (k : NoticeKind) (cause : Cause) (s : State) : State :=
  match takeNotice k s.engine.notices with
  | none => s
  | some rest =>
    report (decide (s.tables.commit = .forceDue 0)) (forcedClosure cause { s with
      engine := { s.engine with notices := rest }
      tables := { s.tables with commit := s.tables.commit.noticeTaken } })

/-- GAP_NOTICE_ENGINE (R117). -/
def execGapNoticeEngine (s : State) : Host.Outcome State Fault Refusal := .next (engineNotice .gap .gap s)

/-- RESTART_ENGINE (R118). -/
def execRestartEngine (s : State) : Host.Outcome State Fault Refusal := .next (engineNotice .restart .restart s)

end Sys2Proof.Machine
end

