-- ==== Sys2Proof/Machine/Framing.lean ====
section
/-! DEFINITION. The framers on both receive lines: RX_BYTE, FRAME_RECEIVED, BYTE_TIMEOUT, and the routing of good
frames (chapter 1, R1 to R14). -/

namespace Sys2Proof.Machine

/-- A framer at work on the bytes it holds, with what it has found on the way: the good frames in order, the bytes
skipped, the CRC errors, and whether it has left LOCKED for HUNT. -/
structure Scan where
  lock : Lock
  run : Nat
  held : List Byte
  frames : List (List Byte)
  skipped : Nat
  crcErrors : Nat
  lost : Bool
deriving DecidableEq, Repr

/-- The oldest byte is discarded and counted; a LOCKED framer enters HUNT by it (R8, R9, R10). -/
def Scan.discard (a : Scan) : Scan :=
  match a.lock with
  | .hunt => { a with held := a.held.tail, skipped := a.skipped + 1 }
  | .locked => { a with held := a.held.tail, skipped := a.skipped + 1, lock := .hunt, run := 0, lost := true }

/-- A complete frame or candidate of `n` bytes is judged by its CRC (R9, R11). -/
def Scan.judge (n : Nat) (a : Scan) : Scan :=
  if crcGood (a.held.take n) then
    { a with lock := .locked, run := 0, held := a.held.drop n, frames := a.frames ++ [a.held.take n] }
  else
    match a.lock with
    | .hunt => a.discard
    | .locked =>
      if a.run < 2 then
        { a with run := a.run + 1, held := a.held.drop n, crcErrors := a.crcErrors + 1 }
      else
        { a with lock := .hunt, run := 0, held := a.held.drop n, crcErrors := a.crcErrors + 1, lost := true }

/-- One move of a framer on its held bytes, or none when it waits for more. With `judging` false it stops at a complete
frame, which FRAME_RECEIVED judges. -/
def Scan.move (judging : Bool) (a : Scan) : Option Scan :=
  match a.held with
  | [] => none
  | first :: rest =>
    if first ≠ sync0 then some a.discard
    else
      match rest with
      | [] => none
      | second :: _ =>
        if second ≠ sync1 then some a.discard
        else
          match frameLength a.held with
          | none => none
          | some n => if judging && decide (n ≤ a.held.length) then some (a.judge n) else none

/-- Moves until the framer waits; each move takes at least one held byte, so `fuel` is the number held. -/
def Scan.go (judging : Bool) : Nat → Scan → Scan
  | 0, a => a
  | fuel + 1, a =>
    match a.move judging with
    | none => a
    | some b => Scan.go judging fuel b

/-- A framer's bytes worked as far as they go. -/
def Framer.scan (judging : Bool) (f : Framer) : Scan :=
  Scan.go judging f.held.length ⟨f.lock, f.run, f.held, [], 0, 0, false⟩

def State.framer (p : Port) (s : State) : Framer :=
  match p with
  | .sp => s.sp
  | .lp => s.lp

def State.setFramer (p : Port) (f : Framer) (s : State) : State :=
  match p with
  | .sp => { s with sp := f }
  | .lp => { s with lp := f }

/-- The flag of a port's transition from LOCKED to HUNT (R8). -/
def lostLockFlag : Port → Flag
  | .sp => .lostLockSp
  | .lp => .lostLockLp

/-! ### Routing of good frames -/

/-- The three-byte samples of a SAMPLE payload (section 11.1). -/
def readSamples (payload : List Byte) (n : Nat) : List Int :=
  (List.range n).map (fun i => signed 24 (fieldAt payload (11 + 3 * i) 3))

/-- A mapped SAMPLE payload is well formed: length, count and rate code (R5). -/
def sampleWellFormed (payload : List Byte) : Bool :=
  let n := fieldAt payload 2 1
  decide (3 ≤ payload.length ∧ 1 ≤ n ∧ n ≤ 64 ∧ fieldAt payload 1 1 ≤ 6 ∧ payload.length = 11 + 3 * n)

/-- The copy that a well-formed SAMPLE payload gives (R5). -/
def readCopy (payload : List Byte) : SampleCopy where
  channel := payload.getD 0 0
  rate := fieldAt payload 1 1
  start := fieldAt payload 3 8
  samples := readSamples payload (fieldAt payload 2 1)

/-- Hand an item to the Triad Assembler. -/
def State.toAssembler (item : AsmItem) (s : State) : State :=
  { s with asm := { s.asm with inbox := s.asm.inbox ++ [item] } }

/-- The examination of a good SAMPLE frame against the active Channel Map (R5). -/
def examineSample (payload : List Byte) (s : State) : State :=
  match payload with
  | [] => s
  | id :: _ =>
    match s.streamOf id with
    | none => s
    | some _ =>
      if sampleWellFormed payload then s.toAssembler (.copy (readCopy payload))
      else (s.toAssembler (.malformed id)).latch .sampleMalformed

/-- A good frame of the Sensor Port Framer: offered for relaying whatever its kind, and examined when it is a SAMPLE
(R4). -/
def routeSensor (frame : List Byte) (s : State) : State :=
  let s := offerForward frame s
  if frameKind frame = kindSample then examineSample (framePayload frame) s else s

/-- A good frame of the Logger Port Framer: a COMMAND goes to the Command Unit, any other kind is offered for relaying
(R6). -/
def routeLogger (frame : List Byte) (s : State) : State :=
  if frameKind frame = kindCommand then
    { s with cmd := { s.cmd with inbox := s.cmd.inbox ++ [framePayload frame] } }
  else offerUpstream frame s

def route (p : Port) (frame : List Byte) (s : State) : State :=
  match p with
  | .sp => routeSensor frame s
  | .lp => routeLogger frame s

/-- The byte timer after a byte has been worked: it runs from this byte while a frame or candidate is begun and not
complete (R12). -/
def timerFor (held : List Byte) : Option Nat :=
  if held.isEmpty || frameComplete held then none else some 0

/-- The framer as a scan leaves it, with its counts and flags, and its good frames routed in order (R8 to R11). -/
def applyScan (p : Port) (a : Scan) (s : State) : State :=
  let f := s.framer p
  let s := s.setFramer p { f with lock := a.lock, run := a.run, held := a.held, timer := timerFor a.held }
  let s := s.bump .bytesSkipped a.skipped
  let s := s.bump .crcErrors a.crcErrors
  let s := s.latchIf (decide (a.crcErrors ≠ 0)) .crcError
  let s := s.latchIf a.lost (lostLockFlag p)
  a.frames.foldl (fun s frame => route p frame s) s

/-- Judge what the framer holds when it is a complete frame or candidate, and whatever a rescan brings up (R9, R11). -/
def judgeHeld (p : Port) (s : State) : State :=
  if frameComplete (s.framer p).held then applyScan p ((s.framer p).scan true) s else s

/-- The byte joins the held bytes, which are worked up to the next complete frame (R9, R10, R12). -/
def takeByte (p : Port) (b : Byte) (s : State) : State :=
  let f := s.framer p
  applyScan p ({ f with held := f.held ++ [b] }.scan false) s

/-- Whether the receiver delivers a byte: after a low stop bit with the line still low behind it, only once the
line has been high for a bit time (R1). -/
def delivers (f : Framer) (wasHigh : Bool) : Bool := !f.waitHigh || wasHigh

/-- RX_BYTE (R1, R9, R10): a frame left complete is judged before the next byte is worked (log entry 5). -/
def execRxByte (p : Port) (b : Byte) (stop : StopBit) (wasHigh : Bool) (s : State) :
    Host.Outcome State Fault Refusal :=
  if delivers (s.framer p) wasHigh then
    let s := takeByte p b (judgeHeld p s)
    .next (s.setFramer p { s.framer p with waitHigh := decide (stop = .stillLow) })
  else .next s

/-- FRAME_RECEIVED (R9, R11). -/
def execFrameReceived (p : Port) (s : State) : Host.Outcome State Fault Refusal :=
  .next (judgeHeld p s)

/-- What the expiry of a byte timer does: a LOCKED framer abandons its frame as one CRC error, a hunting one discards and
counts what it holds (R12). -/
def abandonHeld (p : Port) (s : State) : State :=
  let f := s.framer p
  match f.lock with
  | .locked =>
    (((s.setFramer p { f with lock := .hunt, run := 0, held := [], timer := none }).bump .crcErrors 1).latch
      .crcError).latch (lostLockFlag p)
  | .hunt => (s.setFramer p { f with held := [], timer := none }).bump .bytesSkipped f.held.length

/-- BYTE_TIMEOUT (R12): once more than 4 ms have passed since the latest byte. Before that, and with the timer stopped,
there is no expiry (log entries 1 and 3). -/
def execByteTimeout (p : Port) (s : State) : Host.Outcome State Fault Refusal :=
  if timerExpired Config.byteTimeoutMs (s.framer p).timer then .next (abandonHeld p s) else .next s

end Sys2Proof.Machine
end

