-- ==== Sys2Proof/Decode.lean ====
section
/-! DEFINITION. Which command a table word spells (none: no row of the table gives bits), and which row of the table
the payload of a COMMAND frame is (section 11.2), with the payload of each command row. -/

namespace Sys2Proof

/-- No row of the table of operations gives any bits, so no word spells a command. -/
def decodeTableWord (_nbits _w : Nat) : Option Instr := none

/-- The command codes of section 11.2. -/
def codeEcho : Byte := 0x01
def codeStatusRead : Byte := 0x02
def codeFlagsClear : Byte := 0x03
def codeAttentionMask : Byte := 0x04
def codeTableWrite : Byte := 0x10
def codeTableRead : Byte := 0x11
def codeTablesCommit : Byte := 0x12
def codeCommitCancel : Byte := 0x13
def codeMapGuard : Byte := 0x14
def codeEgressMode : Byte := 0x20
def codeArrivalsFlush : Byte := 0x21
def codeReportInterval : Byte := 0x22
def codePickerRestart : Byte := 0x30
def codePartReset : Byte := 0x31

/-- The row that takes a COMMAND payload (R160, section 11.2): total; what no code names is COMMAND_UNDECODED. -/
def decodePayload (p : List Byte) : Instr :=
  match p with
  | [] => .commandUndecoded p
  | [_] => .commandUndecoded p
  | tag :: code :: params =>
    if code = codeEcho then .echo tag params
    else if code = codeStatusRead then .statusRead tag params
    else if code = codeFlagsClear then .flagsClear tag params
    else if code = codeAttentionMask then .attentionMask tag params
    else if code = codeTableWrite then .tableWrite tag params
    else if code = codeTableRead then .tableRead tag params
    else if code = codeTablesCommit then .tablesCommit tag params
    else if code = codeCommitCancel then .commitCancel tag params
    else if code = codeMapGuard then .mapGuard tag params
    else if code = codeEgressMode then .egressMode tag params
    else if code = codeArrivalsFlush then .arrivalsFlush tag params
    else if code = codeReportInterval then .reportInterval tag params
    else if code = codePickerRestart then .pickerRestart tag params
    else if code = codePartReset then .partReset tag params
    else .commandUndecoded p

/-- The payload of the COMMAND frame that a command row takes (section 11.2: tag, code, parameters); none for a row
that is no command frame. -/
def encodePayload (i : Instr) : Option (List Byte) :=
  match i with
  | .fullReset _ => none
  | .rxByte _ _ _ _ => none
  | .frameReceived _ => none
  | .byteTimeout _ => none
  | .sampleCopyTaken => none
  | .malformedNoticeTaken => none
  | .stallTimerExpiry _ => none
  | .triadIssue => none
  | .filterTriad => none
  | .detectorTriad => none
  | .engineTriad => none
  | .gapNoticeFilter => none
  | .gapNoticeDetector => none
  | .gapNoticeEngine => none
  | .restartFilter => none
  | .restartDetector => none
  | .restartEngine => none
  | .commitWaitExpiry => none
  | .noiseTimerExpiry => none
  | .upstreamFrameStart => none
  | .upstreamFrameSent => none
  | .egressChoice => none
  | .egressFrameSent _ => none
  | .commandUndecoded p => some p
  | .echo tag ps => some (tag :: codeEcho :: ps)
  | .statusRead tag ps => some (tag :: codeStatusRead :: ps)
  | .flagsClear tag ps => some (tag :: codeFlagsClear :: ps)
  | .attentionMask tag ps => some (tag :: codeAttentionMask :: ps)
  | .tableWrite tag ps => some (tag :: codeTableWrite :: ps)
  | .tableRead tag ps => some (tag :: codeTableRead :: ps)
  | .tablesCommit tag ps => some (tag :: codeTablesCommit :: ps)
  | .commitCancel tag ps => some (tag :: codeCommitCancel :: ps)
  | .mapGuard tag ps => some (tag :: codeMapGuard :: ps)
  | .egressMode tag ps => some (tag :: codeEgressMode :: ps)
  | .arrivalsFlush tag ps => some (tag :: codeArrivalsFlush :: ps)
  | .reportInterval tag ps => some (tag :: codeReportInterval :: ps)
  | .pickerRestart tag ps => some (tag :: codePickerRestart :: ps)
  | .partReset tag ps => some (tag :: codePartReset :: ps)

/-- A payload with no tag, a tag alone or a code that names no command (R160, steps 2, 4 and 5). -/
def undecodable (p : List Byte) : Bool :=
  decide (decodePayload p = .commandUndecoded p)

end Sys2Proof
end

