-- ==== Sys2Proof/Machine/Operands.lean ====
section
/-! DEFINITION. The forms of the commands: what the parameter bytes of each must be, and what they say (section 11.2,
R183). `none` is the wrong form of R160, step 6, and a value outside those the command takes. -/

namespace Sys2Proof.Machine

/-- A command without parameters. -/
def readNone (ps : List Byte) : Option Unit :=
  match ps with
  | [] => some ()
  | _ :: _ => none

/-- One byte within a limit. -/
def readByteUpTo (limit : Nat) (ps : List Byte) : Option Nat :=
  match ps with
  | [b] => if b.toNat ≤ limit then some b.toNat else none
  | _ => none

/-- A number of two bytes within a limit. -/
def readWordUpTo (limit : Nat) (ps : List Byte) : Option Nat :=
  match ps with
  | [hi, lo] => if beNat [hi, lo] ≤ limit then some (beNat [hi, lo]) else none
  | _ => none

/-- ECHO: 0 to 250 data bytes (R163). -/
def readEcho (ps : List Byte) : Option (List Byte) := if ps.length ≤ 250 then some ps else none

/-- STATUS_READ: a length of 0 to 250 (R164). -/
def readStatusRead (ps : List Byte) : Option Nat := readByteUpTo 250 ps

/-- FLAGS_CLEAR: a flag mask and the counters option, off or on (R165). -/
def readFlagsClear (ps : List Byte) : Option (BitVec 20 × Bool) :=
  match ps with
  | [a, b, c, o] =>
    match readMask [a, b, c] with
    | none => none
    | some m => if o.toNat ≤ 1 then some (m, decide (o.toNat = 1)) else none
  | _ => none

/-- ATTENTION_MASK: a flag mask (R166). -/
def readAttentionMask (ps : List Byte) : Option (BitVec 20) :=
  match ps with
  | [a, b, c] => readMask [a, b, c]
  | _ => none

/-- What TABLE_WRITE asks for. -/
structure WriteArgs where
  table : Table
  offset : Nat
  data : List Byte
deriving DecidableEq, Repr

/-- TABLE_WRITE: a table, an offset and 1 to 128 data bytes that stay within the table (R142, step 1). -/
def readTableWrite (ps : List Byte) : Option WriteArgs :=
  match ps with
  | num :: off :: data =>
    match Table.ofNumber num.toNat with
    | none => none
    | some t =>
      if 1 ≤ data.length ∧ data.length ≤ 128 ∧ off.toNat + data.length ≤ t.size then some ⟨t, off.toNat, data⟩ else none
  | _ => none

/-- What TABLE_READ asks for. -/
structure ReadArgs where
  shadow : Bool
  table : Table
  offset : Nat
  length : Nat
deriving DecidableEq, Repr

/-- TABLE_READ: a bank, a table, an offset and a length of 0 to 128 (R143). -/
def readTableRead (ps : List Byte) : Option ReadArgs :=
  match ps with
  | [bank, num, off, len] =>
    match Table.ofNumber num.toNat with
    | none => none
    | some t =>
      if bank.toNat ≤ 1 ∧ len.toNat ≤ 128 then some ⟨decide (bank.toNat = 1), t, off.toNat, len.toNat⟩ else none
  | _ => none

/-- TABLES_COMMIT: a wait limit of 0 to 600 seconds (R144, step 1). -/
def readTablesCommit (ps : List Byte) : Option Nat := readWordUpTo 600 ps

/-- What MAP_GUARD asks for: close or open, with a code that is not 0. -/
structure GuardArgs where
  opening : Bool
  code : Byte
deriving DecidableEq, Repr

/-- MAP_GUARD: an operation and a code 1 to 255 (R156). -/
def readMapGuard (ps : List Byte) : Option GuardArgs :=
  match ps with
  | [op, code] => if op.toNat ≤ 1 ∧ code ≠ 0 then some ⟨decide (op.toNat = 1), code⟩ else none
  | _ => none

/-- EGRESS_MODE: HOLD or EMIT (R167). -/
def readEgressMode (ps : List Byte) : Option EgressMode :=
  match readByteUpTo 1 ps with
  | none => none
  | some n => if n = 0 then some .hold else some .emit

/-- REPORT_INTERVAL: 0 to 3,600 seconds (R168). -/
def readReportInterval (ps : List Byte) : Option Nat := readWordUpTo 3600 ps

end Sys2Proof.Machine
end

