-- ==== Sys2Proof/Machine/Commands.lean ====
section
/-! DEFINITION. The Command Unit: COMMAND_UNDECODED, ECHO, STATUS_READ, FLAGS_CLEAR, ATTENTION_MASK, EGRESS_MODE,
ARRIVALS_FLUSH, REPORT_INTERVAL, PICKER_RESTART and PART_RESET (chapter 9, R137). -/

namespace Sys2Proof.Machine

/-- What executing a command comes to: the state, the result code, the reply data, and whether the pending-reset mark
names the reply (R161, R171). -/
structure Answer where
  state : State
  result : Result
  data : List Byte
  resets : Bool := false
deriving DecidableEq, Repr

/-- The refusal of a command: no state changes and no data (R160, R161). -/
def refuse (r : Result) (s : State) : Answer := { state := s, result := r, data := [] }

/-- DONE, with reply data (R161). -/
def done (data : List Byte) (s : State) : Answer := { state := s, result := .done, data := data }

/-- The command frame with this payload is taken: it must be the oldest that waits, which then leaves; with none waiting
it is handed to the Command Unit now. None when another frame's turn comes first (R159; log entry 4). -/
def takeFrame (payload : List Byte) (s : State) : Option State :=
  match s.cmd.inbox with
  | [] => some s
  | p :: rest => if p = payload then some { s with cmd := { s.cmd with inbox := rest } } else none

/-- The judgement of a command with a tag: discarded while a reset is pending, not executed with the Reply Queue full,
else answered (R160, steps 1, 3 and 7). The effect and the reply come in one step (DESIGN CHOICE, log entry 27). -/
def judgeTagged (tag code : Byte) (run : State → Answer) (s : State) : State :=
  if s.cmd.resetPending then s
  else if Config.replyDepth ≤ s.cmd.replies.length then s.latch .replyOverrun
  else
    let a := run s
    pushReply ⟨tag, code, a.result, a.data, a.resets⟩ a.state

/-- A command of a known code taken and judged (R159, R160). -/
def runCommand (code tag : Byte) (ps : List Byte) (run : State → Answer) (s : State) :
    Host.Outcome State Fault Refusal :=
  match takeFrame (tag :: code :: ps) s with
  | none => .next s
  | some s => .next (judgeTagged tag code run s)

/-- The answer to a command whose operands are read first: MALFORMED when its form is wrong (R160, step 6). -/
def withForm {α : Type} (args : Option α) (run : α → State → Answer) (s : State) : Answer :=
  match args with
  | none => refuse .malformed s
  | some a => run a s

/-- The judgement of a payload that names no command: no tag, a tag alone, or an unknown code (R160, steps 1 to 5). -/
def judgeUndecoded (payload : List Byte) (s : State) : State :=
  if s.cmd.resetPending then s
  else
    match payload with
    | [] => s.bump .badCommands 1
    | [tag] => judgeTagged tag 0 (refuse .malformed) s
    | tag :: code :: _ => judgeTagged tag code (refuse .unknown) s

/-- COMMAND_UNDECODED (R160). A payload that names a command is another row's (log entry 4). -/
def execCommandUndecoded (payload : List Byte) (s : State) : Host.Outcome State Fault Refusal :=
  if undecodable payload then
    match takeFrame payload s with
    | none => .next s
    | some s => .next (judgeUndecoded payload s)
  else .next s

/-! ### Reading and echoing -/

/-- ECHO (R163). -/
def execEcho (tag : Byte) (ps : List Byte) (s : State) : Host.Outcome State Fault Refusal :=
  runCommand codeEcho tag ps (withForm (readEcho ps) (fun data s => done data s)) s

/-- The status block cut, or padded with zero bytes, to a length (R164). -/
def cutBlock (n : Nat) (block : List Byte) : List Byte := (block ++ List.replicate 250 0).take n

/-- STATUS_READ (R164). -/
def execStatusRead (tag : Byte) (ps : List Byte) (s : State) : Host.Outcome State Fault Refusal :=
  runCommand codeStatusRead tag ps
    (withForm (readStatusRead ps) (fun n s => done (cutBlock n s.statusBlock) s)) s

/-! ### Flags, attention and egress -/

/-- The flags the mask names cleared, and every counter zeroed with the option on; the reply gives the flags as they
stood (R165). -/
def clearStatus (mask : BitVec 20) (counters : Bool) (s : State) : Answer :=
  done (maskBytes s.status.flags)
    { s with
      status := { s.status with
        flags := clearFlags s.status.flags mask
        counters := if counters then .zero else s.status.counters } }

/-- FLAGS_CLEAR (R165). -/
def execFlagsClear (tag : Byte) (ps : List Byte) (s : State) : Host.Outcome State Fault Refusal :=
  runCommand codeFlagsClear tag ps (withForm (readFlagsClear ps) (fun a s => clearStatus a.1 a.2 s)) s

/-- ATTENTION_MASK (R166). -/
def execAttentionMask (tag : Byte) (ps : List Byte) (s : State) : Host.Outcome State Fault Refusal :=
  runCommand codeAttentionMask tag ps
    (withForm (readAttentionMask ps) (fun m s => done [] { s with status := { s.status with mask := m } })) s

/-- EGRESS_MODE (R136, R167). With records queued on an idle line R167 lets the record or the command's own reply be
chosen first; here the reply stands in its queue when the choice comes, and goes first (DESIGN CHOICE, log entry 27). -/
def execEgressMode (tag : Byte) (ps : List Byte) (s : State) : Host.Outcome State Fault Refusal :=
  runCommand codeEgressMode tag ps
    (withForm (readEgressMode ps)
      (fun m s => done [] { s with arrivals := { s.arrivals with mode := m } })) s

/-- The queue emptied and HOLD set; the reply gives the number of records removed (R137). -/
def flushArrivals (s : State) : Answer :=
  done [BitVec.ofNat 8 s.arrivals.records.length] { s with arrivals := ⟨[], .hold⟩ }

/-- ARRIVALS_FLUSH (R137). -/
def execArrivalsFlush (tag : Byte) (ps : List Byte) (s : State) : Host.Outcome State Fault Refusal :=
  runCommand codeArrivalsFlush tag ps (withForm (readNone ps) (fun _ s => flushArrivals s)) s

/-- The interval set and the timer restarted, or stopped by 0 (R168, R177). -/
def setInterval (n : Nat) (s : State) : Answer :=
  done [] { s with status := { s.status with interval := n, timer := if n = 0 then none else some 0 } }

/-- REPORT_INTERVAL (R168). -/
def execReportInterval (tag : Byte) (ps : List Byte) (s : State) : Host.Outcome State Fault Refusal :=
  runCommand codeReportInterval tag ps (withForm (readReportInterval ps) setInterval) s

/-! ### Restarting and resetting -/

/-- The picker restart: refused while DISARMED; else the assembler cleared at once and the restart sent to the three
picking blocks (R169, R170). -/
def restartPicker (s : State) : Answer :=
  match s.tables.picker with
  | .disarmed => refuse .nothing s
  | .running => done [] (sendNotices .restart (clearAssembler s))

/-- PICKER_RESTART (R169). -/
def execPickerRestart (tag : Byte) (ps : List Byte) (s : State) : Host.Outcome State Fault Refusal :=
  runCommand codePickerRestart tag ps (withForm (readNone ps) (fun _ s => restartPicker s)) s

/-- The pending-reset mark set, naming the reply (R171). -/
def markReset (s : State) : Answer :=
  { state := { s with cmd := { s.cmd with resetPending := true } }, result := .done, data := [], resets := true }

/-- PART_RESET (R171). -/
def execPartReset (tag : Byte) (ps : List Byte) (s : State) : Host.Outcome State Fault Refusal :=
  runCommand codePartReset tag ps (withForm (readNone ps) (fun _ s => markReset s)) s

end Sys2Proof.Machine
end

