-- ==== Sys2Proof/Machine/TableCommands.lean ====
section
/-! DEFINITION. The commands of the Table Bank: TABLE_WRITE, TABLE_READ, TABLES_COMMIT, COMMIT_CANCEL and MAP_GUARD
(chapter 8). -/

namespace Sys2Proof.Machine

/-- TABLE_WRITE in its right form: BUSY, LOCKED, or the bytes written into the shadow image and the mark set (R142). -/
def writeTable (a : WriteArgs) (s : State) : Answer :=
  if s.tables.commit ≠ .none then refuse .busy s
  else if a.table = .chan ∧ s.tables.guard.isSome then refuse .locked s
  else
    done [] { s with
      tables := { s.tables with
        shadow := s.tables.shadow.set a.table (writeAt (s.tables.shadow.get a.table) a.offset a.data)
        written := s.tables.written.set a.table true } }

/-- TABLE_WRITE (R142). -/
def execTableWrite (tag : Byte) (ps : List Byte) (s : State) : Host.Outcome State Fault Refusal :=
  runCommand codeTableWrite tag ps (withForm (readTableWrite ps) writeTable) s

/-- The bytes that TABLE_READ answers: of the shadow, of the active image, or 0 while that is invalid (R143). -/
def tableBytes (a : ReadArgs) (s : State) : List Byte :=
  if a.shadow then readAt (s.tables.shadow.get a.table) a.offset a.length
  else if s.tables.valid.get a.table then readAt (s.tables.active.get a.table) a.offset a.length
  else List.replicate a.length 0

/-- TABLE_READ (R143). -/
def execTableRead (tag : Byte) (ps : List Byte) (s : State) : Host.Outcome State Fault Refusal :=
  runCommand codeTableRead tag ps (withForm (readTableRead ps) (fun a s => done (tableBytes a s) s)) s

/-! ### The commit -/

/-- Two of the Channel Map shadow's three channel ids are equal (R144). -/
def duplicateIds (img : List Byte) : Bool :=
  let m := (readChannelMap img).streams
  decide (m.z.id = m.n.id ∨ m.z.id = m.e.id ∨ m.n.id = m.e.id)

/-- The shadow images clamped, with CLAMPED latched when any field changed (R145). -/
def clampShadow (s : State) : State :=
  let c := clampAll s.tables.shadow
  ({ s with tables := { s.tables with shadow := c.1 } }).latchIf (decide (c.2 ≠ 0)) .clamped

/-- The clamp count of a commit executed now (R145). -/
def clampCount (s : State) : Nat := (clampAll s.tables.shadow).2

/-- The dirty set's byte: bit i for table number i (R183). -/
def dirtyByte (s : State) : Byte :=
  BitVec.ofNat 8 (bitsToNat [tableDirty s .chan, tableDirty s .band, tableDirty s .prof, tableDirty s .rules])

/-- The part stands at a quiet point: every context FREE and no triad in progress (R148). -/
def State.quietPoint (s : State) : Bool := s.poolEmpty && decide (s.inProgress = 0)

/-- The outcomes of a commit that is not refused, in the order of their codes (R148, R183). -/
inductive CommitOutcome where
  | boundary
  | immediate
  | quietWait
deriving DecidableEq, Repr

def CommitOutcome.code : CommitOutcome → Byte
  | .boundary => 0
  | .immediate => 1
  | .quietWait => 2

/-- The outcome by the dirty set, the picker state and the quiet point (R148). -/
def commitOutcome (s : State) : CommitOutcome :=
  if needsBandReset s then
    if s.tables.picker = .disarmed ∨ s.quietPoint = true then .immediate else .quietWait
  else .boundary

def State.setCommit (c : CommitState) (s : State) : State := { s with tables := { s.tables with commit := c } }

/-- The swap taken at once, or the commit state entered (R148, R151, R153, R154). -/
def startCommit (limit : Nat) (s : State) : State :=
  match commitOutcome s with
  | .boundary => if s.inProgress = 0 then swapPlain s else s.setCommit .nextBoundary
  | .immediate => swapWithReset s
  | .quietWait =>
    if limit ≠ 0 then s.setCommit (.quietWait (limit * 1000) 0)
    else if s.inProgress = 0 then forcedSwap s
    else enterForceDue s

/-- TABLES_COMMIT in its right form (R144, R145, R148). -/
def commitTables (limit : Nat) (s : State) : Answer :=
  if s.tables.commit ≠ .none then refuse .busy s
  else if s.tables.written.full = false then refuse .unwritten s
  else if duplicateIds s.tables.shadow.chan then refuse .duplicateId s
  else
    let c := clampShadow s
    done [BitVec.ofNat 8 (clampCount s), dirtyByte c, (commitOutcome c).code] (startCommit limit c)

/-- TABLES_COMMIT (R144 to R154). -/
def execTablesCommit (tag : Byte) (ps : List Byte) (s : State) : Host.Outcome State Fault Refusal :=
  runCommand codeTablesCommit tag ps (withForm (readTablesCommit ps) commitTables) s

/-- A pending commit cancelled; NOTHING when none is pending (R155). -/
def cancelCommit (s : State) : Answer :=
  if s.tables.commit = .none then refuse .nothing s else done [] (s.setCommit .none)

/-- COMMIT_CANCEL (R155). -/
def execCommitCancel (tag : Byte) (ps : List Byte) (s : State) : Host.Outcome State Fault Refusal :=
  runCommand codeCommitCancel tag ps (withForm (readNone ps) (fun _ s => cancelCommit s)) s

/-! ### The map guard -/

def State.setGuard (g : Option Byte) (s : State) : State := { s with tables := { s.tables with guard := g } }

/-- MAP_GUARD in its right form (R156). -/
def guardMap (a : GuardArgs) (s : State) : Answer :=
  match a.opening, s.tables.guard with
  | false, none => done [] (s.setGuard (some a.code))
  | false, some _ => refuse .busy s
  | true, some code => if a.code = code then done [] (s.setGuard none) else refuse .locked s
  | true, none => refuse .nothing s

/-- MAP_GUARD (R156). -/
def execMapGuard (tag : Byte) (ps : List Byte) (s : State) : Host.Outcome State Fault Refusal :=
  runCommand codeMapGuard tag ps (withForm (readMapGuard ps) guardMap) s

end Sys2Proof.Machine
end

