-- ==== Sys2Proof/Machine/Dispatch.lean ====
section
/-! DEFINITION. One arm for each command: its meaning. -/

namespace Sys2Proof.Machine

def exec (i : Instr) (s : State) : Host.Outcome State Fault Refusal :=
  match i with
  | .fullReset straps => Sys2Proof.Machine.execFullReset straps s
  | .rxByte p b stop wasHigh => Sys2Proof.Machine.execRxByte p b stop wasHigh s
  | .frameReceived p => Sys2Proof.Machine.execFrameReceived p s
  | .byteTimeout p => Sys2Proof.Machine.execByteTimeout p s
  | .sampleCopyTaken => Sys2Proof.Machine.execSampleCopyTaken s
  | .malformedNoticeTaken => Sys2Proof.Machine.execMalformedNoticeTaken s
  | .stallTimerExpiry stream => Sys2Proof.Machine.execStallTimerExpiry stream s
  | .triadIssue => Sys2Proof.Machine.execTriadIssue s
  | .filterTriad => Sys2Proof.Machine.execFilterTriad s
  | .detectorTriad => Sys2Proof.Machine.execDetectorTriad s
  | .engineTriad => Sys2Proof.Machine.execEngineTriad s
  | .gapNoticeFilter => Sys2Proof.Machine.execGapNoticeFilter s
  | .gapNoticeDetector => Sys2Proof.Machine.execGapNoticeDetector s
  | .gapNoticeEngine => Sys2Proof.Machine.execGapNoticeEngine s
  | .restartFilter => Sys2Proof.Machine.execRestartFilter s
  | .restartDetector => Sys2Proof.Machine.execRestartDetector s
  | .restartEngine => Sys2Proof.Machine.execRestartEngine s
  | .commitWaitExpiry => Sys2Proof.Machine.execCommitWaitExpiry s
  | .noiseTimerExpiry => Sys2Proof.Machine.execNoiseTimerExpiry s
  | .upstreamFrameStart => Sys2Proof.Machine.execUpstreamFrameStart s
  | .upstreamFrameSent => Sys2Proof.Machine.execUpstreamFrameSent s
  | .egressChoice => Sys2Proof.Machine.execEgressChoice s
  | .egressFrameSent straps => Sys2Proof.Machine.execEgressFrameSent straps s
  | .commandUndecoded payload => Sys2Proof.Machine.execCommandUndecoded payload s
  | .echo tag ps => Sys2Proof.Machine.execEcho tag ps s
  | .statusRead tag ps => Sys2Proof.Machine.execStatusRead tag ps s
  | .flagsClear tag ps => Sys2Proof.Machine.execFlagsClear tag ps s
  | .attentionMask tag ps => Sys2Proof.Machine.execAttentionMask tag ps s
  | .tableWrite tag ps => Sys2Proof.Machine.execTableWrite tag ps s
  | .tableRead tag ps => Sys2Proof.Machine.execTableRead tag ps s
  | .tablesCommit tag ps => Sys2Proof.Machine.execTablesCommit tag ps s
  | .commitCancel tag ps => Sys2Proof.Machine.execCommitCancel tag ps s
  | .mapGuard tag ps => Sys2Proof.Machine.execMapGuard tag ps s
  | .egressMode tag ps => Sys2Proof.Machine.execEgressMode tag ps s
  | .arrivalsFlush tag ps => Sys2Proof.Machine.execArrivalsFlush tag ps s
  | .reportInterval tag ps => Sys2Proof.Machine.execReportInterval tag ps s
  | .pickerRestart tag ps => Sys2Proof.Machine.execPickerRestart tag ps s
  | .partReset tag ps => Sys2Proof.Machine.execPartReset tag ps s

end Sys2Proof.Machine
end

