-- ==== Sys2Proof/WellFormed.lean ====
section
/-! DEFINITION. Which commands the part can meet: a command row's payload fits a frame, and COMMAND_UNDECODED takes
only what no code names. The other rows have no ill-formed operands. -/

namespace Sys2Proof

/-- A frame's payload has 0 to 255 bytes (R2). -/
def payloadFits (p : List Byte) : Bool := decide (p.length ≤ 255)

/-- The static checks on a command. -/
def wellFormed (i : Instr) : Bool :=
  match encodePayload i with
  | none => true
  | some p =>
    payloadFits p &&
      match i with
      | .commandUndecoded q => undecodable q
      | _ => true

end Sys2Proof
end

