-- ==== Sys2Proof/Safety.lean ====
section
/-! DEFINITION. What counts as a safe run, and the conditions on a state that the rules say always hold. -/

namespace Sys2Proof.Safety

open Sys2Proof.Machine

/-- An outcome is safe when the part goes on. -/
def Safe (o : Host.Outcome State Fault Refusal) : Prop := ∃ t, o = .next t

/-- A condition that every step keeps. -/
def Kept (inv : State → Prop) : Prop := ∀ s t, inv s → step s = .next t → inv t

/-- The bytes of a line handed one by one to a port's framer, each with a high stop bit. -/
def feed (p : Port) (bs : List Byte) (s : State) : Host.Outcome State Fault Refusal :=
  match bs with
  | [] => .next s
  | b :: rest =>
    match exec (.rxByte p b .high true) s with
    | .next t => feed p rest t
    | .fault r => .fault r
    | .refused r => .refused r

/-! ### Capacities -/

/-- The queues hold no more than their depths (R13, R14, R132, R162). -/
abbrev QueuesBounded (s : State) : Prop :=
  s.link.forwardQ.length ≤ 8 ∧ s.link.upstreamQ.length ≤ 4 ∧ s.cmd.replies.length ≤ 4 ∧
    s.arrivals.records.length ≤ 32

/-- A framer holds at most a frame's worth of bytes and a failure run of 0 to 2, 0 in HUNT (R8). -/
abbrev FramerBounded (f : Framer) : Prop :=
  f.held.length ≤ 261 ∧ f.run ≤ 2 ∧ (f.lock = .hunt → f.run = 0)

/-- Both framers are bounded (R8). -/
abbrev FramersBounded (s : State) : Prop := FramerBounded s.sp ∧ FramerBounded s.lp

/-- The alignment buffers and the rings hold at most 128 entries (R22, R71). -/
abbrev BuffersBounded (s : State) : Prop :=
  s.asm.comps.z.buffer.length ≤ 128 ∧ s.asm.comps.n.buffer.length ≤ 128 ∧ s.asm.comps.e.buffer.length ≤ 128 ∧
    s.array.rings.b0.length ≤ 128 ∧ s.array.rings.b1.length ≤ 128 ∧ s.array.rings.b2.length ≤ 128

/-- Four images of the tables' sizes (section 8.1). -/
abbrev ImagesSized (t : PerTable (List Byte)) : Prop :=
  t.chan.length = 32 ∧ t.band.length = 96 ∧ t.prof.length = 144 ∧ t.rules.length = 32

/-- Every shadow and active image has its table's size (section 8.1). -/
abbrev TablesSized (s : State) : Prop := ImagesSized s.tables.shadow ∧ ImagesSized s.tables.active

/-- Every counter holds at most 4,294,967,295 (R176). -/
abbrev CountersBounded (s : State) : Prop :=
  s.status.counters.framesForwarded ≤ max32 ∧ s.status.counters.framesDropped ≤ max32 ∧
    s.status.counters.crcErrors ≤ max32 ∧ s.status.counters.bytesSkipped ≤ max32 ∧
    s.status.counters.badCommands ≤ max32 ∧ s.status.counters.bridges ≤ max32 ∧
    s.status.counters.overlaps ≤ max32 ∧ s.status.counters.longGaps ≤ max32 ∧
    s.status.counters.triggers ≤ max32 ∧ s.status.counters.evictions ≤ max32 ∧
    s.status.counters.bareOnsets ≤ max32 ∧ s.status.counters.recordsDropped ≤ max32

/-! ### What statements compare with -/

/-- What a long gap leaves: LONG_GAP latched and counted, the assembler UNSYNCED with every component unanchored and every
buffer empty, and a gap notice on its way to each of the three picking blocks, behind the triads issued before it
(R30, R31). -/
def afterLongGap (s : State) : State :=
  { s with
    asm := { s.asm with phase := .unsynced, comps := .all ⟨none, []⟩ }
    bank := { s.bank with notices := s.bank.notices ++ [⟨.gap, s.bank.inbox.length⟩] }
    array := { s.array with
      notices := s.array.notices ++ [⟨.gap, s.bank.inbox.length + s.array.inbox.length⟩] }
    engine := { s.engine with
      notices := s.engine.notices ++
        [⟨.gap, s.bank.inbox.length + s.array.inbox.length + s.engine.inbox.length⟩] }
    status := { s.status with
      flags := latchFlag s.status.flags .longGap
      counters := { s.status.counters with longGaps := min (s.status.counters.longGaps + 1) 4294967295 } } }

/-- A usable frame taken: it has left the inbox, and its channel's stall timer starts afresh with the awaited mark
clear (R36). -/
def frameTaken (rest : List AsmItem) (stream : Comp) (s : State) : State :=
  { s with asm := { s.asm with inbox := rest, stall := s.asm.stall.set stream ⟨some 0, false⟩ } }

/-- Samples on a component's grid from a time onward, the first `fill` of them marked bridged (R22, R26). -/
def onGridFrom (p t fill : Nat) (xs : List Sample) : List Slot :=
  xs.mapIdx (fun i x => ⟨t + i * p, x.value, x.clip, decide (i < fill)⟩)

/-- A command row is taken and judged now: no reset is pending, the Reply Queue has room, and no other frame is before it
(R159, R160). -/
abbrev Ready (c : Instr) (s : State) : Prop :=
  s.cmd.resetPending = false ∧ s.cmd.replies.length < 4 ∧
    (s.cmd.inbox = [] ∨ s.cmd.inbox.head? = encodePayload c)

/-- A command taken from the inbox, with its reply at the tail of the Reply Queue (R161, R162). -/
def answered (tag code : Byte) (result : Result) (data : List Byte) (s : State) : State :=
  { s with cmd := { s.cmd with
    inbox := s.cmd.inbox.tail
    replies := s.cmd.replies ++ [⟨tag, code, result, data, false⟩] } }

/-! ### Fields of the layouts -/

/-- The flags in the order of the table in 10.2, and so of their bits (R182). -/
def flagOrder : List Flag :=
  [.lostLockSp, .lostLockLp, .crcError, .egressOverrun, .upstreamOverrun, .sampleMalformed, .rateMismatch, .gridMismatch,
    .overlap, .longGap, .stall, .filterSat, .longTrigger, .eviction, .noContext, .queueFull, .replyOverrun, .clamped,
    .swapped, .commitForced]

/-- A flag mask stands in the three bytes at an offset, bit i for the flag in row i + 1 of the table in 10.2 (R182). -/
def FlagsAt (p : List Byte) (off : Nat) (flags : BitVec 20) : Prop :=
  ∀ i, (fieldAt p off 3).testBit i = (flagOrder.map (flagSet flags)).getD i false

/-- A band mask stands in the byte at an offset (R182). -/
def BandMaskAt (p : List Byte) (off : Nat) (m : PerBand Bool) : Prop :=
  ∀ i, (p.getD off 0).getLsbD i = [m.b0, m.b1, m.b2].getD i false

/-- A record's flag word stands in the two bytes at an offset (section 11.3). -/
def FlagWordAt (p : List Byte) (off : Nat) (f : RecFlags) (long noContext incomplete single short : Bool) : Prop :=
  ∀ i, (fieldAt p off 2).testBit i =
    [f.truncated, f.bridged, f.clip.z, f.clip.n, f.clip.e, long, noContext, incomplete, single, short].getD i false

/-- A peak entry of a component stands at an offset (section 11.3). -/
def PeakAt (p : List Byte) (off : Nat) (component : Byte) (k : Peak) : Prop :=
  p.getD off 0 = component ∧ fieldAt p (off + 1) 3 = k.magnitude % 2 ^ 24 ∧ fieldAt p (off + 4) 4 = k.offset % 2 ^ 32

/-- A detector entry of nine bytes stands at an offset (section 11.4). -/
def EntryAt (p : List Byte) (off : Nat) (d : DetReading) : Prop :=
  p.getD off 0 = (match d.state with | .off => 0 | .warming => 1 | .idle => 2 | .on => 3) ∧
    fieldAt p (off + 1) 4 = d.sta % 2 ^ 32 ∧ fieldAt p (off + 5) 4 = d.lta % 2 ^ 32

/-- Six detector entries stand from an offset onward, V0 first (section 11.4). -/
def EntriesAt (p : List Byte) (off : Nat) (d : PerDet DetReading) : Prop :=
  EntryAt p off d.v0 ∧ EntryAt p (off + 9) d.h0 ∧ EntryAt p (off + 18) d.v1 ∧ EntryAt p (off + 27) d.h1 ∧
    EntryAt p (off + 36) d.v2 ∧ EntryAt p (off + 45) d.h2

/-- The nine fields of a detector's profile (R147). -/
def profileFields (p : Profile) : List Nat :=
  [p.ks, p.kl, p.thrOn, p.thrOff, p.floor, p.onsetFactor, p.depth, p.warmUp, p.maxOn]

/-- The values of the 75 fields of four images that can be clamped (R146, R147, R183). -/
def clampedFields (t : PerTable (List Byte)) : List Nat :=
  let m := readChannelMap t.chan
  let r := readRules t.rules
  [m.rate, m.stall, m.bridge, m.streams.z.clip, m.streams.n.clip, m.streams.e.clip]
    ++ [Band.b0, .b1, .b2].flatMap (fun b => [(readBand t.band b).vShift, (readBand t.band b).hShift])
    ++ [Det.v0, .h0, .v1, .h1, .v2, .h2].flatMap (fun d => profileFields (readProfile t.prof d))
    ++ [r.fmWindow, r.fmFactor, r.pRatio, r.sRatio, r.sMin, r.sMax, r.codaHold, r.maxEvent, r.watermark]

/-! ### Picking -/

/-- A signed 24-bit value (R43). -/
abbrev Fits24 (v : Int) : Prop := -8388608 ≤ v ∧ v ≤ 8388607

/-- A section's outputs are signed 24-bit values (R43, R44). -/
abbrev SectionFits (m : Section) : Prop := Fits24 m.y1 ∧ Fits24 m.y2

/-- Both sections of each component (R43, R44). -/
abbrev BandFits (m : PerComp Cascade) : Prop :=
  SectionFits m.z.sec1 ∧ SectionFits m.z.sec2 ∧ SectionFits m.n.sec1 ∧ SectionFits m.n.sec2 ∧
    SectionFits m.e.sec1 ∧ SectionFits m.e.sec2

/-- Every output that a section of the bank holds is a signed 24-bit value (R43, R44). -/
abbrev FiltersFit (s : State) : Prop :=
  BandFits s.bank.sections.b0 ∧ BandFits s.bank.sections.b1 ∧ BandFits s.bank.sections.b2

/-- A detector's values are within their widths; one that is not ON holds no Lh and no on_count; one that is OFF holds
nothing; a pending seed is one of WARMING with both averages at 0 (R54, R55, R57). -/
abbrev DetectorFits (d : Detector) : Prop :=
  d.sta ≤ max32 ∧ d.lta ≤ max32 ∧ d.lh ≤ max32 ∧ d.countdown ≤ 65535 ∧ d.onCount ≤ 65535 ∧
    (d.state ≠ .on → d.lh = 0 ∧ d.onCount = 0) ∧
    (d.state = .off → d.sta = 0 ∧ d.lta = 0 ∧ d.countdown = 0 ∧ d.seedPending = false) ∧
    (d.seedPending = true → d.state = .warming ∧ d.sta = 0 ∧ d.lta = 0)

/-- All six detectors (R54). -/
abbrev DetectorsFit (s : State) : Prop :=
  DetectorFits s.array.dets.v0 ∧ DetectorFits s.array.dets.h0 ∧ DetectorFits s.array.dets.v1 ∧
    DetectorFits s.array.dets.h1 ∧ DetectorFits s.array.dets.v2 ∧ DetectorFits s.array.dets.h2

/-- A buffer's grid times rise by whole periods, one after another, up to the expected time (R22). -/
def onGrid (period expected : Nat) : List Slot → Bool
  | [] => true
  | x :: xs => decide (x.time + period * (xs.length + 1) = expected) && onGrid period expected xs

/-- A band whose enable is off holds zero filter state; a pending BOUNDARY commit does not change the
Band Table (R46, R148). -/
abbrev OffBandsRest (s : State) : Prop :=
  (∀ b : Band, (s.bandCfg b).enable = false →
    s.bank.sections.get b = .all ⟨⟨0, 0, 0, 0⟩, ⟨0, 0, 0, 0⟩⟩) ∧
    (s.tables.commit = .nextBoundary → s.tables.shadow.band = s.tables.active.band)

/-- A component's buffer lies on its grid, and is empty while it is unanchored (R22, R23). -/
def componentOnGrid (period : Nat) (c : CompState) : Bool :=
  match c.anchor with
  | none => c.buffer.isEmpty
  | some a => onGrid period a.expected c.buffer

/-- The alignment buffers lie on their grids, and every component is anchored while ALIGNED (R22, R23). A pending
BOUNDARY commit does not change the Channel Map (R148). -/
abbrev GridsKept (s : State) : Prop :=
  componentOnGrid s.period s.asm.comps.z = true ∧ componentOnGrid s.period s.asm.comps.n = true ∧
    componentOnGrid s.period s.asm.comps.e = true ∧
    (s.asm.phase ≠ .unsynced →
      s.asm.comps.z.anchor.isSome ∧ s.asm.comps.n.anchor.isSome ∧ s.asm.comps.e.anchor.isSome) ∧
    (s.tables.commit = .nextBoundary → s.tables.shadow.chan = s.tables.active.chan)

/-- The grid time at which a component's next head stands: its head's, or with an empty buffer its expected time. -/
def nextTime (c : CompState) : Nat :=
  match c.buffer, c.anchor with
  | x :: _, _ => x.time
  | [], some a => a.expected
  | [], none => 0

/-- While ALIGNED the three components' next heads lie within half a period of one another (R34). -/
def HeadsTogether (s : State) : Prop :=
  s.asm.phase ≠ .unsynced →
    ∀ c d : Comp, nextTime (s.asm.comps.get c) ≤ nextTime (s.asm.comps.get d) + s.period / 2

/-! ### Context pool -/

/-- A context's event number, phase and S part are those of its state (R96, R104 to R106). -/
abbrev ContextFits (c : Context) : Prop :=
  match c.state with
  | .measure => c.event = 0 ∧ c.phase = none ∧ c.sPart = none
  | .open_ => 1 ≤ c.event ∧ c.event ≤ 65535 ∧ c.phase = some .p ∧ c.sPart = none
  | .coda => 1 ≤ c.event ∧ c.event ≤ 65535 ∧ c.phase.isSome

/-- No two contexts other than FREE hold the same nonzero event number, a context in MEASURE holds 0, and the counter
stays within 65,535 (R96, R102). -/
def PoolFits (s : State) : Prop :=
  s.engine.counter ≤ 65535 ∧
    (∀ i c, s.ctx i = some c → ContextFits c) ∧
    (∀ i j c d, s.ctx i = some c → s.ctx j = some d → c.event = d.event → c.event ≠ 0 → i = j)

/-! ### Table Bank -/

/-- The four valid marks are all clear or all set, the picker is RUNNING exactly when they are set, and a commit is
pending only while it is RUNNING (R141, R148, R157). -/
abbrev BankFits (s : State) : Prop :=
  s.tables.valid.band = s.tables.valid.chan ∧ s.tables.valid.prof = s.tables.valid.chan ∧
    s.tables.valid.rules = s.tables.valid.chan ∧
    (s.tables.picker = .running ↔ s.tables.valid.chan = true) ∧
    (s.tables.commit ≠ .none → s.tables.picker = .running)

/-- Every clamped field of the Channel Map is in its range (R146). -/
abbrev MapInRange (m : ChannelMap) : Prop :=
  m.rate ≤ 6 ∧ 100 ≤ m.stall ∧ m.stall ≤ 10000 ∧ m.bridge ≤ 16 ∧
    1 ≤ m.streams.z.clip ∧ m.streams.z.clip ≤ 8388607 ∧ 1 ≤ m.streams.n.clip ∧ m.streams.n.clip ≤ 8388607 ∧
    1 ≤ m.streams.e.clip ∧ m.streams.e.clip ≤ 8388607

/-- A Detection Profile in its ranges (R147). -/
abbrev ProfileInRange (p : Profile) : Prop :=
  1 ≤ p.ks ∧ p.ks ≤ 8 ∧ p.ks < p.kl ∧ p.kl ≤ 15 ∧ 17 ≤ p.thrOn ∧ p.thrOn ≤ 1023 ∧ 16 ≤ p.thrOff ∧
    p.thrOff < p.thrOn ∧ 1 ≤ p.floor ∧ 16 ≤ p.onsetFactor ∧ p.onsetFactor ≤ 1023 ∧ 1 ≤ p.depth ∧ p.depth ≤ 127 ∧
    2 ^ p.kl ≤ p.warmUp ∧ 1 ≤ p.maxOn

/-- The Event Rules in their ranges (R147). -/
abbrev RulesInRange (r : Rules) : Prop :=
  4 ≤ r.fmWindow ∧ r.fmWindow ≤ 64 ∧ 16 ≤ r.fmFactor ∧ r.fmFactor ≤ 1023 ∧ 16 ≤ r.pRatio ∧ r.pRatio ≤ 1023 ∧
    16 ≤ r.sRatio ∧ r.sRatio ≤ 1023 ∧ 1 ≤ r.sMin ∧ r.sMin ≤ r.sMax ∧ 1 ≤ r.codaHold ∧
    r.sMax + r.fmWindow ≤ r.maxEvent ∧ r.maxEvent ≤ 1000000 ∧ 8 ≤ r.watermark ∧ r.watermark ≤ 32

/-- Four images whose every field lies in its clamp range (R146, R147). -/
abbrev InRange (t : PerTable (List Byte)) : Prop :=
  MapInRange (readChannelMap t.chan) ∧
    (∀ b : Band, (readBand t.band b).vShift ≤ 30 ∧ (readBand t.band b).hShift ≤ 30) ∧
    (∀ d : Det, ProfileInRange (readProfile t.prof d)) ∧ RulesInRange (readRules t.rules)

/-- Valid active images are in range with distinct channel ids, and so are shadow images frozen by a commit (R19, R144,
R149). -/
abbrev TablesLegal (s : State) : Prop :=
  BankFits s ∧ TablesSized s ∧
    (s.tables.valid.chan = true → InRange s.tables.active ∧ duplicateIds s.tables.active.chan = false) ∧
    (s.tables.commit ≠ .none → InRange s.tables.shadow ∧ duplicateIds s.tables.shadow.chan = false)

/-- While DISARMED nothing is picked: the active images are as after a full reset, no triad is on its way, the assembler is
UNSYNCED and empty, every detector is OFF, every context FREE and no record is queued (R19, R35, R97, R157). -/
abbrev DisarmedIsIdle (s : State) : Prop :=
  BankFits s ∧
    (s.tables.picker = .disarmed →
      s.tables.active = PerTable.zeros ∧ s.asm.phase = .unsynced ∧ s.asm.comps = .all ⟨none, []⟩ ∧
        s.bank.inbox = [] ∧ s.array.inbox = [] ∧ s.engine.inbox = [] ∧
        s.array.dets = PerDet.of (fun _ => ⟨.off, 0, 0, false, 0, 0, 0⟩) ∧
        (∀ i, s.ctx i = none) ∧ s.arrivals.records = [])

/-- Every capacity of the part (R8, R13, R14, R22, R71, R132, R162, R176). -/
abbrev CapacitiesHold (s : State) : Prop :=
  QueuesBounded s ∧ FramersBounded s ∧ BuffersBounded s ∧ CountersBounded s

end Sys2Proof.Safety
end

