-- ==== Sys2Proof/Certificates/Slice0/Obligations.lean ====
section
/-! DEFINITION. The statements for the provers. A result is stated as the next state itself, so that each also says what
stays as it was and that the command completes. Premises are on the state and the operands alone. -/

open Sys2Proof Sys2Proof.Machine Sys2Proof.Safety

/-! ### Steps, reset and waiting -/

/-- The command at the front of the queue is what a step executes, on the state with the queue's rest. -/
def Obligations.StepRunsTheFrontCommand : Prop :=
  ∀ (c : Instr) (rest : List Instr) (s : State),
    step { s with pending := c :: rest } = exec c { s with pending := rest }

/-- With no command waiting a step advances the running timers by a millisecond, each held at the count at which it has
expired, and nothing else. The tick on an empty queue is the model's choice (log entry 2). -/
def Obligations.IdleStepAdvancesOnlyTimers : Prop :=
  ∀ s : State, s.pending = [] →
    step s = .next { s with
      sp := { s.sp with timer := s.sp.timer.map (fun ms => min (ms + 1) 5) }
      lp := { s.lp with timer := s.lp.timer.map (fun ms => min (ms + 1) 5) }
      link := { s.link with
        lpLine := s.link.lpLine.map (fun f => { f with ms := f.ms + 1 })
        spLine := s.link.spLine.map (fun f => { f with ms := f.ms + 1 }) }
      asm := { s.asm with
        stall :=
          ⟨{ s.asm.stall.z with timer := s.asm.stall.z.timer.map (fun ms => min (ms + 1) s.chanMap.stall) },
            { s.asm.stall.n with timer := s.asm.stall.n.timer.map (fun ms => min (ms + 1) s.chanMap.stall) },
            { s.asm.stall.e with timer := s.asm.stall.e.timer.map (fun ms => min (ms + 1) s.chanMap.stall) }⟩ }
      tables := { s.tables with
        commit :=
          match s.tables.commit with
          | .quietWait limit elapsed => .quietWait limit (min (elapsed + 1) limit)
          | other => other }
      status := { s.status with
        timer := s.status.timer.map (fun ms => min (ms + 1) (s.status.interval * 1000)) } }

/-- Every command in every state has a next state, which leaves the commands that wait where they are. That nothing ends a
run is the model's deduction from the spec (log entry 24), and that a row whose step cannot happen still has a next state,
the state as it was, is the model's choice (log entry 1). -/
def Obligations.EveryCommandLetsThePartGoOn : Prop :=
  ∀ (c : Instr) (s : State), ∃ t, exec c s = .next t ∧ t.pending = s.pending

/-- After a full reset every block is at its reset value, whatever stood before, and the straps are as sampled. That
`waitHigh` is clear is the model's choice (log entry 20). -/
def Obligations.FullResetRestoresEveryBlock : Prop :=
  ∀ (straps : BitVec 2) (s : State),
    exec (.fullReset straps) s = .next
      { pending := s.pending
        sp := ⟨.hunt, 0, [], none, false⟩
        lp := ⟨.hunt, 0, [], none, false⟩
        link := ⟨straps, [], [], none, none⟩
        asm := ⟨[], .unsynced, .all ⟨none, []⟩, .all ⟨none, false⟩⟩
        bank := ⟨[], [], PerBand.of (fun _ => .all ⟨⟨0, 0, 0, 0⟩, ⟨0, 0, 0, 0⟩⟩), false⟩
        array := ⟨[], [], PerDet.of (fun _ => ⟨.off, 0, 0, false, 0, 0, 0⟩), ⟨[], [], []⟩⟩
        engine := ⟨[], [], Vector.replicate 8 none, 7, 0⟩
        arrivals := ⟨[], .hold⟩
        tables :=
          ⟨⟨List.replicate 32 0, List.replicate 96 0, List.replicate 144 0, List.replicate 32 0⟩,
            ⟨List.replicate 32 0, List.replicate 96 0, List.replicate 144 0, List.replicate 32 0⟩,
            ⟨false, false, false, false⟩, ⟨false, false, false, false⟩, .none, none, .disarmed⟩
        cmd := ⟨[], [], false⟩
        status := ⟨0, 0, ⟨0, 0, 0, 0, 0, 0, 0, 0, 0, 0, 0, 0⟩, 0, none, none⟩ }

/-! ### Framing (chapter 1) -/

/-- A further two bytes leave the CRC register at zero exactly when they are the CRC, high byte first (R3). -/
def Obligations.CrcResidueIsZeroExactlyForTheCrc : Prop :=
  ∀ (body : List Byte) (hi lo : Byte),
    crc16 (body ++ [hi, lo]) = 0 ↔ (crc16 body).toNat = hi.toNat * 256 + lo.toNat

/-- A frame built with any kind and any payload of at most 255 bytes, received byte by byte on either port by a framer in
either state that holds no bytes, is taken as a good frame: the framer is LOCKED with a failure run of 0, no byte is
counted, and the frame is routed whole. That the last byte and the judgement are two steps is the model's deduction (log
entry 5). -/
def Obligations.BuiltFrameIsReceivedGood : Prop :=
  ∀ (p : Port) (kind : Byte) (payload : List Byte) (s : State),
    payload.length ≤ 255 → CountersBounded s → (s.framer p).held = [] → (s.framer p).waitHigh = false →
      ∃ t, feed p (buildFrame kind payload) s = .next t ∧
        exec (.frameReceived p) t =
          .next (route p (buildFrame kind payload) (s.setFramer p ⟨.locked, 0, [], none, false⟩))

/-- RX_BYTE: a byte is handed on with its stop bit high or low, and only behind a low one with the line still low does
the receiver wait and deliver nothing until the line has been high for a bit time (R1). With no sync pair held, a byte that begins or continues none is discarded and counted, with a lone 0xC9
before it, and brings a LOCKED framer to HUNT with its flag; 0xC9, and 0x36 behind it, are held (R8 to R10, R12). -/
def Obligations.RxByteOutsideAFrame : Prop :=
  ∀ (p : Port) (b : Byte) (stop : StopBit) (was : Bool) (s : State),
    ((s.framer p).waitHigh = true → was = false → exec (.rxByte p b stop was) s = .next s) ∧
    (CountersBounded s → FramersBounded s → (s.framer p).waitHigh = false ∨ was = true →
      let f := s.framer p
      let wait := decide (stop = .stillLow)
      let strays := fun (held : List Byte) (timer : Option Nat) (n : Nat) =>
        ((s.setFramer p ⟨.hunt, 0, held, timer, wait⟩).bump .bytesSkipped n).latchIf (decide (f.lock = .locked))
          (lostLockFlag p)
      (f.held = [] → b ≠ 0xC9 → exec (.rxByte p b stop was) s = .next (strays [] none 1)) ∧
      (f.held = [] → b = 0xC9 →
        exec (.rxByte p b stop was) s =
          .next (s.setFramer p { f with held := [0xC9], timer := some 0, waitHigh := wait })) ∧
      (f.held = [0xC9] → b = 0x36 →
        exec (.rxByte p b stop was) s =
          .next (s.setFramer p { f with held := [0xC9, 0x36], timer := some 0, waitHigh := wait })) ∧
      (f.held = [0xC9] → b = 0xC9 → exec (.rxByte p b stop was) s = .next (strays [0xC9] (some 0) 1)) ∧
      (f.held = [0xC9] → b ≠ 0x36 → b ≠ 0xC9 → exec (.rxByte p b stop was) s = .next (strays [] none 2)))

/-- RX_BYTE behind a sync pair: every byte of an unfinished frame or candidate is held without a look for sync bytes, and
its byte timer restarts, or stops when the frame is complete (R2, R10, R12). That the byte which completes a frame is only
held, and judged by the FRAME_RECEIVED step behind it, is the model's deduction (log entry 5). -/
def Obligations.RxByteInsideAFrame : Prop :=
  ∀ (p : Port) (b : Byte) (stop : StopBit) (was : Bool) (rest : List Byte) (s : State),
    CountersBounded s → (s.framer p).waitHigh = false ∨ was = true →
    (s.framer p).held = 0xC9 :: 0x36 :: rest →
    (∀ kind len tail, rest = kind :: len :: tail → tail.length < len.toNat + 2) →
      exec (.rxByte p b stop was) s = .next (s.setFramer p { s.framer p with
        held := 0xC9 :: 0x36 :: (rest ++ [b])
        timer :=
          match rest ++ [b] with
          | _ :: len :: tail => if tail.length = len.toNat + 2 then none else some 0
          | _ => some 0
        waitHigh := decide (stop = .stillLow) })

/-- FRAME_RECEIVED on exactly a frame's worth of bytes: a good CRC routes the frame and leaves the framer LOCKED with run
0; a bad one drops it whole as one CRC error in LOCKED, the third in a row bringing HUNT and the flag, and in HUNT
discards and counts its first byte and works the bytes behind it as if they came in anew, frames within them included; when
none of these is 0xC9, all are discarded and counted (R8, R9, R11). -/
def Obligations.FrameReceivedJudgesByCrc : Prop :=
  ∀ (p : Port) (kind len hi lo : Byte) (payload : List Byte) (s : State),
    CountersBounded s → FramersBounded s → payload.length = len.toNat →
    (s.framer p).held = 0xC9 :: 0x36 :: kind :: len :: (payload ++ [hi, lo]) →
      let f := s.framer p
      let good := (crc16 (kind :: len :: payload)).toNat = hi.toNat * 256 + lo.toNat
      (good → exec (.frameReceived p) s =
        .next (route p f.held (s.setFramer p { f with lock := .locked, run := 0, held := [], timer := none }))) ∧
      (¬ good → f.lock = .locked → f.run < 2 → exec (.frameReceived p) s =
        .next (((s.setFramer p { f with run := f.run + 1, held := [], timer := none }).bump .crcErrors 1).latch
          .crcError)) ∧
      (¬ good → f.lock = .locked → f.run = 2 → exec (.frameReceived p) s =
        .next ((((s.setFramer p { f with lock := .hunt, run := 0, held := [], timer := none }).bump .crcErrors 1).latch
          .crcError).latch (lostLockFlag p))) ∧
      (¬ good → f.lock = .hunt → (0xC9 : Byte) ∉ kind :: len :: (payload ++ [hi, lo]) → exec (.frameReceived p) s =
        .next ((s.setFramer p { f with held := [], timer := none }).bump .bytesSkipped (len.toNat + 6))) ∧
      (¬ good → f.lock = .hunt → f.waitHigh = false →
        ∃ t, feed p (0x36 :: kind :: len :: (payload ++ [hi, lo]))
            ((s.setFramer p ⟨.hunt, 0, [], none, false⟩).bump .bytesSkipped 1) = .next t ∧
          exec (.frameReceived p) s = exec (.frameReceived p) t)

/-- A good frame on the Sensor port is offered to the Forward Queue whatever its kind; a SAMPLE of a mapped channel also
reaches the Triad Assembler, as a copy when it is well formed and as a malformed-frame notice with the flag otherwise, in
both cases whether or not the queue admits the frame (R4, R5, R13). -/
def Obligations.GoodSensorFrameIsRelayedAndCopied : Prop :=
  ∀ (kind : Byte) (payload : List Byte) (s : State),
    payload.length ≤ 255 → CountersBounded s → s.sp.held = buildFrame kind payload →
      let frame := buildFrame kind payload
      let id := payload.getD 0 0
      let n := (payload.getD 2 0).toNat
      let mapped := kind = 0x11 ∧ payload ≠ [] ∧ s.tables.valid.chan = true ∧
        (id = s.tables.active.chan.getD 5 0 ∨ id = s.tables.active.chan.getD 10 0 ∨ id = s.tables.active.chan.getD 15 0)
      let wellFormed := 3 ≤ payload.length ∧ 1 ≤ n ∧ n ≤ 64 ∧ (payload.getD 1 0).toNat ≤ 6 ∧
        payload.length = 11 + 3 * n
      let copy : SampleCopy :=
        ⟨id, (payload.getD 1 0).toNat, beNat ((payload.drop 3).take 8),
          (List.range n).map (fun i => signed 24 (beNat ((payload.drop (11 + 3 * i)).take 3)))⟩
      let base := s.setFramer .sp { s.sp with lock := .locked, run := 0, held := [], timer := none }
      let offered :=
        if s.link.forwardQ.length < 8 then { base with link := { s.link with forwardQ := s.link.forwardQ ++ [frame] } }
        else (base.bump .framesDropped 1).latch .egressOverrun
      exec (.frameReceived .sp) s = .next
        (if mapped then
          if wellFormed then { offered with asm := { s.asm with inbox := s.asm.inbox ++ [.copy copy] } }
          else ({ offered with asm := { s.asm with inbox := s.asm.inbox ++ [.malformed id] } } : State).latch .sampleMalformed
        else offered)

/-- A good COMMAND frame on the Logger port goes to the Command Unit alone; a frame of any other kind is offered to the
Upstream Queue and dropped, counted and flagged when that holds 4 (R6, R14). -/
def Obligations.GoodLoggerFrameIsTakenOrRelayed : Prop :=
  ∀ (kind : Byte) (payload : List Byte) (s : State),
    payload.length ≤ 255 → CountersBounded s → s.lp.held = buildFrame kind payload →
      let base := s.setFramer .lp { s.lp with lock := .locked, run := 0, held := [], timer := none }
      exec (.frameReceived .lp) s = .next
        (if kind = 0x40 then { base with cmd := { s.cmd with inbox := s.cmd.inbox ++ [payload] } }
        else if s.link.upstreamQ.length < 4 then
          { base with link := { s.link with upstreamQ := s.link.upstreamQ ++ [buildFrame kind payload] } }
        else (base.bump .framesDropped 1).latch .upstreamOverrun)

/-- BYTE_TIMEOUT once the byte timer has counted more than 4 ms: LOCKED abandons its bytes as one CRC error and enters HUNT
with its flag, HUNT discards and counts them and stays (R12). Before that, and with the timer stopped, there is no expiry,
and the row changes nothing (log entries 1 and 3). -/
def Obligations.ByteTimeoutAbandonsTheFrame : Prop :=
  ∀ (p : Port) (s : State),
    let f := s.framer p
    (f.timer = none → exec (.byteTimeout p) s = .next s) ∧
    ∀ ms, f.timer = some ms →
    (ms ≤ 4 → exec (.byteTimeout p) s = .next s) ∧
    (4 < ms → f.lock = .locked → exec (.byteTimeout p) s =
      .next ((((s.setFramer p { f with lock := .hunt, run := 0, held := [], timer := none }).bump .crcErrors 1).latch
        .crcError).latch (lostLockFlag p))) ∧
    (4 < ms → f.lock = .hunt → exec (.byteTimeout p) s =
      .next ((s.setFramer p { f with held := [], timer := none }).bump .bytesSkipped f.held.length))

/-- EGRESS_CHOICE on a free line takes the oldest of the first source that has one: the Forward Queue, the Reply Queue,
the Report Slot, and in EMIT the Arrival Queue. The entry leaves its source; a relayed frame is sent as received, and one
of the part's own has its status summary byte and CRC formed now (R2, R7, R15). That the byte is formed with the entry
gone is the model's reading (log entry 14). The byte's bits are attention (a flag both latched and in the mask), picker
RUNNING, AT_WATERMARK and COMMIT_PENDING, and 0 (R7, R134, R148, R175, R182). -/
def Obligations.EgressChoiceTakesTheFirstSource : Prop :=
  (∀ (s : State) (i : Nat), s.summary.getLsbD i = true ↔
    match i with
    | 0 => ∃ f : Flag, flagSet s.status.flags f = true ∧ flagSet s.status.mask f = true
    | 1 => s.tables.picker = .running
    | 2 => s.tables.valid.rules = true ∧ s.rules.watermark ≤ s.arrivals.records.length
    | 3 => s.tables.commit ≠ .none
    | _ => False) ∧
  ∀ (s : State), s.link.lpLine = none →
    (∀ frame rest, s.link.forwardQ = frame :: rest → exec .egressChoice s =
      .next { s with link := { s.link with forwardQ := rest, lpLine := some ⟨frame, .forward, false, 0⟩ } }) ∧
    (∀ r rest, s.link.forwardQ = [] → s.cmd.replies = r :: rest →
      let t := { s with cmd := { s.cmd with replies := rest } }
      exec .egressChoice s = .next { t with
        link := { s.link with lpLine := some ⟨buildFrame 0x60 (t.summary :: r.bytes), .reply, r.resets, 0⟩ } }) ∧
    (∀ n, s.link.forwardQ = [] → s.cmd.replies = [] → s.status.slot = some n →
      let t := { s with status := { s.status with slot := none } }
      exec .egressChoice s = .next { t with
        link := { s.link with lpLine := some ⟨buildFrame 0x62 (t.summary :: n.bytes), .report, false, 0⟩ } }) ∧
    (∀ r rest, s.link.forwardQ = [] → s.cmd.replies = [] → s.status.slot = none → s.arrivals.mode = .emit →
      s.arrivals.records = r :: rest →
      let t := { s with arrivals := { s.arrivals with records := rest } }
      exec .egressChoice s = .next { t with
        link := { s.link with lpLine := some ⟨buildFrame 0x61 (t.summary :: r.bytes), .arrival, false, 0⟩ } }) ∧
    (s.link.forwardQ = [] → s.cmd.replies = [] → s.status.slot = none →
      s.arrivals.mode = .hold ∨ s.arrivals.records = [] → exec .egressChoice s = .next s)

/-- The transmit lines: SP_TXD, idle, takes the oldest frame of the Upstream Queue as it is; the departure of a frame's
last byte frees its line, a relayed frame is counted and one of the part's own is not, and the reply that the
pending-reset mark names brings the full reset with the straps sampled. Through every other command a frame on a line
stays there as it is, whole, and the passing of time keeps its bytes (R14, R16, R17, R172). -/
def Obligations.LinesSendTheirFramesWhole : Prop :=
  (∀ (c : Instr) (f : TxFrame) (s : State), (∀ straps, c ≠ .fullReset straps) →
    (s.link.lpLine = some f → (∀ straps, c ≠ .egressFrameSent straps) →
      ∃ t, exec c s = .next t ∧ t.link.lpLine = some f) ∧
    (s.link.spLine = some f → c ≠ .upstreamFrameSent →
      (∀ straps, c = .egressFrameSent straps → ∀ g, s.link.lpLine = some g → g.resets = false) →
      ∃ t, exec c s = .next t ∧ t.link.spLine = some f)) ∧
  (∀ (f : TxFrame) (s : State), s.pending = [] → ∃ t, step s = .next t ∧
    (s.link.lpLine = some f → t.link.lpLine = some { f with ms := f.ms + 1 }) ∧
    (s.link.spLine = some f → t.link.spLine = some { f with ms := f.ms + 1 })) ∧
  ∀ (straps : BitVec 2) (f : TxFrame) (frame : List Byte) (rest : List (List Byte)) (s : State),
    (s.link.spLine = none → s.link.upstreamQ = frame :: rest → exec .upstreamFrameStart s =
      .next { s with link := { s.link with upstreamQ := rest, spLine := some ⟨frame, .upstream, false, 0⟩ } }) ∧
    (s.link.spLine = some f → exec .upstreamFrameSent s =
      .next ({ s with link := { s.link with spLine := none } }.bump .framesForwarded 1)) ∧
    (s.link.lpLine = some f →
      (f.resets = true → exec (.egressFrameSent straps) s = exec (.fullReset straps) s) ∧
      (f.resets = false → f.source = .forward → exec (.egressFrameSent straps) s =
        .next ({ s with link := { s.link with lpLine := none } }.bump .framesForwarded 1)) ∧
      (f.resets = false → f.source ≠ .forward → exec (.egressFrameSent straps) s =
        .next { s with link := { s.link with lpLine := none } }))

/-! ### Triad assembly (chapter 2) -/

/-- A treated sample keeps to 24 bits, is the sample or its negation with the lone positive limit of the inverted negative
one, and is marked clipped by its magnitude, always for a sample at the negative limit (R21). A start time within half a
period of the expected one is continuous; one beyond it comes after the number of missing samples that brings it nearest
to the grid, half-way taken as the later, and one before it overlaps the number that does the same (R25 to R27). -/
def Obligations.SamplesAreTreatedAndPlacedNearest : Prop :=
  (∀ (cfg : StreamCfg) (v : Int), Fits24 v → 1 ≤ cfg.clip → cfg.clip ≤ 8388607 →
    Fits24 (treat cfg v).value ∧
    (cfg.invert = false → (treat cfg v).value = v) ∧
    (cfg.invert = true → (treat cfg v).value = min (-v) 8388607) ∧
    ((treat cfg v).clip = true ↔ (cfg.clip : Int) ≤ (treat cfg v).value ∨ (treat cfg v).value ≤ -(cfg.clip : Int)) ∧
    (v = -8388608 → (treat cfg v).clip = true)) ∧
  ∀ (period expected start : Nat), 0 < period → period % 2 = 0 →
    let d : Int := (start : Int) - (expected : Int)
    match offsetOf period expected start with
    | .continuous => 2 * d ≤ period ∧ -(period : Int) ≤ 2 * d
    | .gap g => 1 ≤ g ∧ period < 2 * d ∧ -(period : Int) ≤ 2 * (d - g * period) ∧ 2 * (d - g * period) < period
    | .overlap k => 1 ≤ k ∧ 2 * d < -(period : Int) ∧ -(period : Int) ≤ 2 * (-d - k * period) ∧
        2 * (-d - k * period) < period

/-- SAMPLE_COPY_TAKEN of an anchored component in either state, no long gap: the treated samples go on the component's grid
at its expected time, behind as many bridged copies of the last accepted sample as are missing, or less as many as overlap,
and the expected time advances past them; a bridge and an overlap are counted, and a frame that overlaps whole is unused. In
UNSYNCED alignment is then judged (R20 to R28, R32, R36). -/
def Obligations.UsableFrameIsPlacedOnTheGrid : Prop :=
  ∀ (c : SampleCopy) (rest : List AsmItem) (stream : Comp) (a : Anchor) (s : State),
    nextTriad s = none → s.asm.inbox = .copy c :: rest →
    s.streamOf c.channel = some stream → c.rate = s.chanMap.rate →
    (s.asm.comps.get (s.chanMap.component stream)).anchor = some a →
      let comp := s.chanMap.component stream
      let p := s.period
      let buffer := (s.asm.comps.get comp).buffer
      let xs := c.samples.map (treat (s.chanMap.streams.get stream))
      let d : Int := (c.start : Int) - (a.expected : Int)
      let half : Int := (p : Int) / 2
      let taken := frameTaken rest stream s
      let judged := fun (u : State) => if s.asm.phase = .unsynced then judgeAlignment u else u
      let put := fun (u : State) (fill : Nat) (kept : List Sample) => judged
        ({ u with asm := { u.asm with comps := (u.asm.comps.set comp
          ⟨some ⟨a.expected + (fill + kept.length) * p, kept.getLastD a.last⟩,
            buffer ++ onGridFrom p a.expected fill (List.replicate fill a.last ++ kept)⟩) } } : State)
      (-half ≤ d → d ≤ half → buffer.length + xs.length ≤ 128 →
        exec .sampleCopyTaken s = .next (put taken 0 xs)) ∧
      (∀ g : Nat, half < d → (g : Int) = (d + half) / p → g ≤ s.chanMap.bridge → buffer.length + (g + xs.length) ≤ 128 →
        exec .sampleCopyTaken s = .next (put (taken.bump .bridges 1) g xs)) ∧
      (∀ k : Nat, d < -half → (k : Int) = (-d + half) / p → k < xs.length → buffer.length + (xs.length - k) ≤ 128 →
        exec .sampleCopyTaken s = .next (put ((taken.bump .overlaps 1).latch .overlap) 0 (xs.drop k))) ∧
      (∀ k : Nat, d < -half → (k : Int) = (-d + half) / p → xs.length ≤ k →
        exec .sampleCopyTaken s = .next ((taken.bump .overlaps 1).latch .overlap))

/-- SAMPLE_COPY_TAKEN of a usable frame that is a long gap, in either state: by a gap beyond the bridge limit, or by a
buffer that would pass 128 samples. Its component alone is anchored afresh, at the frame's own start time (R26, R28 to
R31). That BRIDGES stays and OVERLAPS advances when the capacity is what makes the gap is the model's reading (log entry
15). -/
def Obligations.LongGapAnchorsTheFrameThatEndsIt : Prop :=
  ∀ (c : SampleCopy) (rest : List AsmItem) (stream : Comp) (a : Anchor) (s : State),
    nextTriad s = none → s.asm.inbox = .copy c :: rest → c.samples.length ≤ 64 →
    s.streamOf c.channel = some stream → c.rate = s.chanMap.rate →
    (s.asm.comps.get (s.chanMap.component stream)).anchor = some a →
      let comp := s.chanMap.component stream
      let p := s.period
      let buffer := (s.asm.comps.get comp).buffer
      let xs := c.samples.map (treat (s.chanMap.streams.get stream))
      let d : Int := (c.start : Int) - (a.expected : Int)
      let half : Int := (p : Int) / 2
      let fill : Int := if half < d then (d + half) / p else 0
      let drop : Int := if d < -half then (-d + half) / p else 0
      s.chanMap.bridge < fill ∨ (drop < xs.length ∧ 128 < buffer.length + fill + xs.length - drop) →
        let taken := frameTaken rest stream s
        let t := afterLongGap (if d < -half then (taken.bump .overlaps 1).latch .overlap else taken)
        exec .sampleCopyTaken s = .next { t with asm := { t.asm with comps := (t.asm.comps.set comp
          ⟨some ⟨c.start + xs.length * p, xs.getLastD ⟨0, false⟩⟩, onGridFrom p c.start 0 xs⟩) } }

/-- A copy at the wrong rate and a malformed-frame notice of a mapped channel are long gaps that anchor nothing; neither
restarts a stall timer, and items of a channel that is no longer mapped are discarded (R20, R24, R29, R36). -/
def Obligations.BadFramesAreLongGaps : Prop :=
  ∀ (c : SampleCopy) (id : Byte) (rest : List AsmItem) (stream : Comp) (s : State), nextTriad s = none →
    let t := { s with asm := { s.asm with inbox := rest } }
    (s.asm.inbox = .copy c :: rest → s.streamOf c.channel = some stream → c.rate ≠ s.chanMap.rate →
      exec .sampleCopyTaken s = .next (afterLongGap (t.latch .rateMismatch))) ∧
    (s.asm.inbox = .copy c :: rest → s.streamOf c.channel = none → exec .sampleCopyTaken s = .next t) ∧
    (s.asm.inbox = .malformed id :: rest → s.streamOf id = some stream →
      exec .malformedNoticeTaken s = .next (afterLongGap t)) ∧
    (s.asm.inbox = .malformed id :: rest → s.streamOf id = none → exec .malformedNoticeTaken s = .next t)

/-- SAMPLE_COPY_TAKEN of an unanchored component anchors it at the frame's start time, and alignment is then judged
(R23, R32). -/
def Obligations.UsableFrameAnchorsItsComponent : Prop :=
  ∀ (c : SampleCopy) (rest : List AsmItem) (stream : Comp) (s : State),
    nextTriad s = none → s.asm.inbox = .copy c :: rest → c.samples.length ≤ 64 →
    s.streamOf c.channel = some stream → c.rate = s.chanMap.rate →
    s.asm.comps.get (s.chanMap.component stream) = ⟨none, []⟩ →
      let xs := c.samples.map (treat (s.chanMap.streams.get stream))
      let taken := frameTaken rest stream s
      exec .sampleCopyTaken s = .next (judgeAlignment { taken with asm := { taken.asm with
        comps := (s.asm.comps.set (s.chanMap.component stream)
          ⟨some ⟨c.start + xs.length * s.period, xs.getLastD ⟨0, false⟩⟩, onGridFrom s.period c.start 0 xs⟩) } })

/-- The judgement of alignment in UNSYNCED on buffers that lie on their grids: nothing while one is empty; else every
sample earlier than half a period before the latest head is dropped, and then a buffer left empty ends it, heads within
half a period of one another align at Z's head with triad 0 next, and heads further apart are a grid mismatch that
unanchors every component, with no count and no notice (R32, R33). -/
def Obligations.AlignmentIsJudgedOnTheTrimmedHeads : Prop :=
  ∀ s : State, GridsKept s → s.asm.phase = .unsynced →
    let c := s.asm.comps
    (c.z.buffer = [] ∨ c.n.buffer = [] ∨ c.e.buffer = [] → judgeAlignment s = s) ∧
    ∀ z zs n ns e es, c.z.buffer = z :: zs → c.n.buffer = n :: ns → c.e.buffer = e :: es →
      let latest := max z.time (max n.time e.time)
      let trim := fun (x : CompState) =>
        ({ x with buffer := x.buffer.filter (fun y => decide (latest ≤ y.time + s.period / 2)) } : CompState)
      let t := { s with asm := { s.asm with comps := ⟨trim c.z, trim c.n, trim c.e⟩ } }
      ((trim c.z).buffer = [] ∨ (trim c.n).buffer = [] ∨ (trim c.e).buffer = [] → judgeAlignment s = t) ∧
      ∀ z' zs' n' ns' e' es', (trim c.z).buffer = z' :: zs' → (trim c.n).buffer = n' :: ns' →
        (trim c.e).buffer = e' :: es' →
        let spread := max z'.time (max n'.time e'.time) - min z'.time (min n'.time e'.time)
        (spread ≤ s.period / 2 →
          judgeAlignment s = { t with asm := { t.asm with phase := .aligned 0 z'.time } }) ∧
        (s.period / 2 < spread →
          judgeAlignment s = { s.latch .gridMismatch with asm := { s.asm with comps := .all ⟨none, []⟩ } })

/-- TRIAD_ISSUE: in ALIGNED with three samples at the heads, RUNNING and no commit pending, or none but with no triad in
progress and no notice before the engine, the heads leave together as the next triad, at alignment time plus index times
P; under a pending commit none is issued with a triad in progress, nor with a notice before the engine (R33, R34, R150).
That a notice which waited before the commit was executed holds the triad back too is the model's choice (log entry 28).
After index 2^48 − 1 the next index is open (log entry 16). -/
def Obligations.TriadLeavesFromTheThreeHeads : Prop :=
  ∀ (index alignTime : Nat) (z n e : Slot) (zs ns es : List Slot) (s : State),
    s.asm.phase = .aligned index alignTime → s.tables.picker = .running →
    s.asm.comps.z.buffer = z :: zs → s.asm.comps.n.buffer = n :: ns → s.asm.comps.e.buffer = e :: es →
      let issued := fun (next : Nat) =>
        ({ s with
          asm := { s.asm with
            phase := .aligned next alignTime
            comps := ⟨⟨s.asm.comps.z.anchor, zs⟩, ⟨s.asm.comps.n.anchor, ns⟩, ⟨s.asm.comps.e.anchor, es⟩⟩ }
          bank := { s.bank with
            inbox := s.bank.inbox ++
              [⟨index, alignTime + index * s.period,
                ⟨⟨z.value, z.clip, z.bridged⟩, ⟨n.value, n.clip, n.bridged⟩, ⟨e.value, e.clip, e.bridged⟩⟩⟩] } } :
          State)
      (s.tables.commit = .none ∨ (s.inProgress = 0 ∧ s.engine.notices = []) →
        (index + 1 < 2 ^ 48 → exec .triadIssue s = .next (issued (index + 1))) ∧
        (2 ^ 48 ≤ index + 1 → ∃ next, exec .triadIssue s = .next (issued next))) ∧
      (s.tables.commit ≠ .none → s.inProgress ≠ 0 ∨ s.engine.notices ≠ [] → exec .triadIssue s = .next s)

/-- STALL_TIMER_EXPIRY once the stall limit has passed: the channel's timer stops, STALL is latched, and all three awaited
marks are set, so INGRESS_STALL holds (R36). Before that, and with the timer stopped, there is no expiry, and the row
changes nothing (log entries 1 and 3). -/
def Obligations.StallExpiryAwaitsAllChannels : Prop :=
  ∀ (stream : Comp) (s : State),
    ((s.asm.stall.get stream).timer = none → exec (.stallTimerExpiry stream) s = .next s) ∧
    ∀ ms, (s.asm.stall.get stream).timer = some ms →
    (ms < s.chanMap.stall → exec (.stallTimerExpiry stream) s = .next s) ∧
    (s.chanMap.stall ≤ ms → ∃ t, exec (.stallTimerExpiry stream) s =
        .next (({ s with asm := { s.asm with stall := t } } : State).latch .stall) ∧
      (∀ c, t.get c = ⟨if c = stream then none else (s.asm.stall.get c).timer, true⟩) ∧
      ({ s with asm := { s.asm with stall := t } } : State).ingressStall = true)

/-! ### The filter bank (chapter 3) -/

/-- R41 and R42 whole: the accumulator is the exact sum of five products, of magnitude at most 5 × 2^46; the unsaturated
output is its quotient by 2^22 rounded to the nearest, one half toward plus infinity; a section with b0 of 1.0 and the
rest 0 passes its input, a band of two such passes the treated samples, and a section of zeros gives 0. -/
def Obligations.SectionRoundsTheExactSumToNearest : Prop :=
  ∀ (k : Coeffs) (m : Section) (x : Int),
    Fits24 k.b0 ∧ Fits24 k.b1 ∧ Fits24 k.b2 ∧ Fits24 k.a1 ∧ Fits24 k.a2 →
    Fits24 m.x1 ∧ Fits24 m.x2 ∧ Fits24 m.y1 ∧ Fits24 m.y2 → Fits24 x →
      let acc := accumulate k m x
      let out := roundAcc acc
      acc = k.b0 * x + k.b1 * m.x1 + k.b2 * m.x2 - k.a1 * m.y1 - k.a2 * m.y2 ∧
      -(5 * 2 ^ 46) ≤ acc ∧ acc ≤ 5 * 2 ^ 46 ∧
      out * 2 ^ 22 - 2 ^ 21 ≤ acc ∧ acc < out * 2 ^ 22 + 2 ^ 21 ∧
      roundAcc (5 * 2 ^ 21) = 3 ∧ roundAcc (-5 * 2 ^ 21) = -2 ∧
      (runSection ⟨4194304, 0, 0, 0, 0⟩ m x).y = x ∧
      (∀ (n : Cascade) (v : Bool) (i j : Nat),
        (runCascade ⟨true, v, v, i, j, ⟨4194304, 0, 0, 0, 0⟩, ⟨4194304, 0, 0, 0, 0⟩⟩ n x).y = x) ∧
      (runSection ⟨0, 0, 0, 0, 0⟩ m x).y = 0

/-- FILTER_TRIAD: the oldest triad goes through both sections of each component of each enabled band, by the active
coefficients on the state before it; the outputs are rounded and saturated to 24 bits, saturation is latched and held as
FILTER_SATURATING, a band that is off has no part and keeps its state, and the filtered triad is handed on with the
triad's index, time and marks (R40 to R46). -/
def Obligations.FilterTriadRunsBothSections : Prop :=
  ∀ (t : Triad) (rest : List Triad) (s : State),
    s.bank.inbox = t :: rest → (∀ n ns, s.bank.notices = n :: ns → n.ahead ≠ 0) →
      let acc := fun (k : Coeffs) (m : Section) (x : Int) =>
        k.b0 * x + k.b1 * m.x1 + k.b2 * m.x2 - k.a1 * m.y1 - k.a2 * m.y2
      let raw := fun (k : Coeffs) (m : Section) (x : Int) => (acc k m x + 2 ^ 21) / 2 ^ 22
      let sat := fun (v : Int) => if 8388607 < v then 8388607 else if v < -8388608 then -8388608 else v
      let first := fun (b : Band) (c : Comp) =>
        raw (s.bandCfg b).sec1 ((s.bank.sections.get b).get c).sec1 (t.samples.get c).value
      let second := fun (b : Band) (c : Comp) =>
        raw (s.bandCfg b).sec2 ((s.bank.sections.get b).get c).sec2 (sat (first b c))
      ∃ (sections : PerBand (PerComp Cascade)) (saturating : Bool) (bands : PerBand (Option (PerComp Int))),
        exec .filterTriad s = .next (({ s with
          bank := ⟨rest, s.bank.notices.map (fun n => { n with ahead := n.ahead - 1 }), sections, saturating⟩
          array := { s.array with inbox := s.array.inbox ++
            [⟨t.index, t.time, t.samples.map (fun x => x.clip), t.samples.map (fun x => x.bridged), bands⟩] } } :
          State).latchIf saturating .filterSat) ∧
        (saturating = true ↔ ∃ b c, (s.bandCfg b).enable = true ∧
          (first b c ≠ sat (first b c) ∨ second b c ≠ sat (second b c))) ∧
        ∀ b, if (s.bandCfg b).enable then
            (∃ y, bands.get b = some y ∧ ∀ c, y.get c = sat (second b c)) ∧
            ∀ c, let m := (s.bank.sections.get b).get c
              (sections.get b).get c = ⟨⟨(t.samples.get c).value, m.sec1.x1, sat (first b c), m.sec1.y1⟩,
                ⟨sat (first b c), m.sec2.x1, sat (second b c), m.sec2.y1⟩⟩
          else bands.get b = none ∧ sections.get b = s.bank.sections.get b

/-! ### The Detector Array (chapter 4) -/

/-- The characteristic functions are the squared outputs scaled by their shifts, rounded down and held to 32 bits; a
vertical shift of 14 leaves every value but that of −8,388,608 unsaturated, and a horizontal shift of 15 every pair but
that of twice −8,388,608 (R52, R53). An average takes the floored part of the difference: it moves toward the value and
never past it, always falls toward a lower one, and rises toward a higher one exactly when the difference has reached 2^k
(R57). -/
def Obligations.CfsAndAveragesAreExact : Prop :=
  (∀ (shift : Nat) (y : PerComp Int),
    (cfVertical shift y : Int) = min (y.z ^ 2 / 2 ^ shift) (2 ^ 32 - 1) ∧
    (cfHorizontal shift y : Int) = min ((y.n ^ 2 + y.e ^ 2) / 2 ^ shift) (2 ^ 32 - 1) ∧
    (Fits24 y.z → y.z ≠ -8388608 → (cfVertical 14 y : Int) = y.z ^ 2 / 2 ^ 14) ∧
    (Fits24 y.n → Fits24 y.e → ¬ (y.n = -8388608 ∧ y.e = -8388608) →
      (cfHorizontal 15 y : Int) = (y.n ^ 2 + y.e ^ 2) / 2 ^ 15)) ∧
  ∀ (avg k cf : Nat),
    (average avg k cf : Int) = avg + ((cf : Int) - avg) / 2 ^ k ∧
    (avg ≤ cf → avg ≤ average avg k cf ∧ average avg k cf ≤ cf) ∧
    (cf < avg → cf ≤ average avg k cf ∧ average avg k cf < avg) ∧
    (avg ≤ cf → (avg < average avg k cf ↔ avg + 2 ^ k ≤ cf))

/-- What a detector does with one triad in each of its states: seeding and counting in WARMING, the trigger test in IDLE,
the release and the long-trigger test in ON (R56, R59 to R62). -/
def Obligations.DetectorActsByItsState : Prop :=
  ∀ (p : Profile) (cf : Nat) (d : Detector),
    let sta := average d.sta p.ks cf
    let lta := average d.lta p.kl cf
    let leff := max d.lta p.floor
    (d.state = .off → detectorTurn p cf d = (d, .quiet)) ∧
    (d.state = .warming → d.seedPending = true →
      detectorTurn p cf d =
        ({ d with sta := cf, lta := cf, countdown := p.warmUp, seedPending := false }, .quiet)) ∧
    (d.state = .warming → d.seedPending = false → 1 < d.countdown →
      detectorTurn p cf d = ({ d with sta := sta, lta := lta, countdown := d.countdown - 1 }, .quiet)) ∧
    (d.state = .warming → d.seedPending = false → d.countdown = 1 →
      detectorTurn p cf d = ({ d with state := .idle, sta := sta, lta := lta, countdown := 0 }, .quiet)) ∧
    (d.state = .idle → sta * 16 ≥ leff * p.thrOn →
      detectorTurn p cf d = ({ d with state := .on, sta := sta, lh := leff, onCount := 1 }, .trigger leff)) ∧
    (d.state = .idle → sta * 16 < leff * p.thrOn →
      detectorTurn p cf d = ({ d with sta := sta, lta := lta }, .quiet)) ∧
    (d.state = .on → sta * 16 ≤ d.lh * p.thrOff →
      detectorTurn p cf d = ({ d with state := .idle, sta := sta, lh := 0, onCount := 0 }, .quiet)) ∧
    (d.state = .on → d.lh * p.thrOff < sta * 16 → d.onCount < p.maxOn →
      detectorTurn p cf d = ({ d with sta := sta, onCount := d.onCount + 1 }, .quiet)) ∧
    (d.state = .on → d.lh * p.thrOff < sta * 16 → p.maxOn ≤ d.onCount →
      detectorTurn p cf d =
        ({ d with state := .idle, sta := sta, lta := sta, lh := 0, onCount := 0 }, .longRelease))

/-- DETECTOR_TRIAD: for each band present its CFs and marks are entered in its ring, which keeps the 128 latest; each
detector that runs acts on its own CF and every other is as it was; the results carry the index, the time, the values, the
states after the triad, the triggers and the long-trigger notices in the order V0 to H2, each trigger counted and a long
trigger latched (R52, R58, R63 to R65, R71, R72). While the engine has triggers to search, the array waits (R73; log entry
10). -/
def Obligations.DetectorTriadHandsOnItsResults : Prop :=
  ∀ (t : FilteredTriad) (rest : List FilteredTriad) (s : State), BuffersBounded s →
    s.array.inbox = t :: rest → (∀ n ns, s.array.notices = n :: ns → n.ahead ≠ 0) →
      ((∃ r ∈ s.engine.inbox, r.triggers ≠ []) → exec .detectorTriad s = .next s) ∧
      ((∀ r ∈ s.engine.inbox, r.triggers = []) →
        let entry := fun (b : Band) (y : PerComp Int) =>
          (⟨t.index, y.z, cfVertical (s.bandCfg b).vShift y, cfHorizontal (s.bandCfg b).hShift y, t.clip, t.bridged⟩ :
            RingEntry)
        let after := fun (d : Det) =>
          match t.bands.get d.band with
          | none => (s.array.dets.get d, DetEvent.quiet)
          | some y =>
            if (s.bandCfg d.band).enable = true ∧
                (match d.kind with
                  | .v => (s.bandCfg d.band).vEnable
                  | .h => (s.bandCfg d.band).hEnable) = true then
              detectorTurn (s.profile d)
                (match d.kind with
                  | .v => (entry d.band y).cfV
                  | .h => (entry d.band y).cfH) (s.array.dets.get d)
            else (s.array.dets.get d, DetEvent.quiet)
        let triggers := [Det.v0, .h0, .v1, .h1, .v2, .h2].filterMap (fun d =>
          match (after d).2 with
          | .trigger lh => some (⟨d, t.index, lh⟩ : Trigger)
          | _ => none)
        let longs := [Det.v0, .h0, .v1, .h1, .v2, .h2].filterMap (fun d =>
          match (after d).2 with
          | .longRelease => some d.band
          | _ => none)
        exec .detectorTriad s = .next (((({ s with
          array :=
            { inbox := rest
              notices := s.array.notices.map (fun n => { n with ahead := n.ahead - 1 })
              dets := PerDet.of (fun d => (after d).1)
              rings := PerBand.of (fun b =>
                match t.bands.get b with
                | none => s.array.rings.get b
                | some y =>
                  (s.array.rings.get b ++ [entry b y]).drop ((s.array.rings.get b).length + 1 - 128)) }
          engine := { s.engine with inbox := s.engine.inbox ++
            [{ index := t.index
               time := t.time
               bands := PerBand.of (fun b => (t.bands.get b).map (fun y => ⟨y, entry b y⟩))
               states := PerDet.of (fun d => (after d).1.state)
               triggers := triggers
               longs := longs }] } } : State).bump .triggers triggers.length).latchIf (!longs.isEmpty)
            .longTrigger)))

/-! ### Onset search and measurement (chapter 5) -/

/-- The back-search ends behind the most recent quiet entry among the `depth` entries before the trigger; without one it
ends, TRUNCATED, at the last entry of the depth or at the oldest the ring holds. No entry between the onset and the
trigger is quiet, and all are present. What it hands on is the onset, its distance from the trigger and the mark (R78 to
R80). -/
def Obligations.BackSearchStopsAtTheLastQuietEntry : Prop :=
  ∀ (s : State) (t : Trigger),
    let ring := s.array.rings.get t.det.band
    let p := s.profile t.det
    let quiet := fun (e : RingEntry) =>
      (match t.det.kind with
        | .v => e.cfV
        | .h => e.cfH) * 16 ≤ t.lh * p.onsetFactor
    let f := searchOnset s t
    f.onset ≤ t.index ∧ f.quality = t.index - f.onset ∧ f.quality ≤ p.depth ∧
    (∀ j, f.onset ≤ j → j < t.index → ∃ e, ringFind ring j = some e ∧ ¬ quiet e) ∧
    (f.truncated = false → 1 ≤ f.onset ∧ f.quality + 1 ≤ p.depth ∧
      ∃ e, ringFind ring (f.onset - 1) = some e ∧ quiet e) ∧
    (f.truncated = true → f.quality = p.depth ∨ f.onset = 0 ∨ ringFind ring (f.onset - 1) = none)

/-- A trigger merges into the matching context whose compared onset is nearest, of those the earlier, of those the lowest
slot; with no match it merges into none. A V trigger is compared with V primaries, an H trigger with the S onset of a
context that holds an S part and otherwise with H primaries (R83, R84). -/
def Obligations.MergeGoesToTheNearestMatchingOnset : Prop :=
  ∀ (s : State) (k : Kind) (onset : Nat),
    let compared := fun (i : Fin 8) (o : Nat) => ∃ c, s.ctx i = some c ∧
      ((k = .v ∧ c.kind = .v ∧ o = c.onset) ∨
        (k = .h ∧ c.sPart = none ∧ c.kind = .h ∧ o = c.onset) ∨
        (k = .h ∧ ∃ sp, c.sPart = some sp ∧ o = sp.onset))
    let within := fun (o : Nat) => o ≤ onset + s.rules.merge ∧ onset ≤ o + s.rules.merge
    (mergeTarget s k onset = none ↔ ∀ i o, compared i o → ¬ within o) ∧
    ∀ i, mergeTarget s k onset = some i →
      ∃ o, compared i o ∧ within o ∧
        ∀ j q, compared j q → within q →
          ((o : Int) - onset).natAbs < ((q : Int) - onset).natAbs ∨
          (((o : Int) - onset).natAbs = ((q : Int) - onset).natAbs ∧ (o < q ∨ (o = q ∧ i ≤ j)))

/-- A window of at most 64 entries summed into a fresh candidate of either kind gives the exact sums of both characteristic
functions, the count, and the marks of any entry. For an H primary the polarity stays absent; for a V primary the first
entry that qualifies decides it by the sign of its filtered value, with the Z clip mark of that entry, and with none it
stays pending (R87 to R91). -/
def Obligations.WindowSumsItsEntries : Prop :=
  ∀ (r : Rules) (polarity : Polarity) (es : List RingEntry) (c : Context),
    es.length ≤ 64 → (∀ e ∈ es, e.cfV ≤ max32 ∧ e.cfH ≤ max32) →
    c.window = ⟨0, 0, 0, polarity, false⟩ → c.clip = .all false → c.bridged = false →
      let d := es.foldl (sumEntry r) c
      d.window.ez = (es.map (fun e => e.cfV)).sum ∧ d.window.eh = (es.map (fun e => e.cfH)).sum ∧
      d.window.counted = es.length ∧
      (∀ k, d.clip.get k = true ↔ ∃ e ∈ es, e.clip.get k = true) ∧
      (d.bridged = true ↔ ∃ e ∈ es, ∃ k, e.bridged.get k = true) ∧
      (polarity = .absent → d.window.polarity = .absent ∧ d.window.polarityClipped = false) ∧
      (∀ lh, polarity = .pending → c.lh = some lh →
        (∀ e ∈ es, lh * r.fmFactor ≤ e.cfV * 16 → e.yZ ≠ 0) →
        match es.find? (fun e => decide (lh * r.fmFactor ≤ e.cfV * 16)) with
        | none => d.window.polarity = .pending ∧ d.window.polarityClipped = false
        | some e => d.window.polarity = (if 0 < e.yZ then .up else .down) ∧ d.window.polarityClipped = e.clip.z)

/-- The class of a completed window by the P and S tests, in the order of the candidate's kind; with both ratios at least
16 the tests pass together only for equal sums with both ratios at 16, or for two sums of 0 (R92). -/
def Obligations.WindowIsClassifiedByItsEnergies : Prop :=
  ∀ (r : Rules) (w : Window), 16 ≤ r.pRatio → 16 ≤ r.sRatio →
    let p := w.ez * 16 ≥ r.pRatio * w.eh
    let q := w.eh * 16 ≥ r.sRatio * w.ez
    (classify r .v w = .p ↔ p) ∧ (classify r .v w = .s ↔ ¬ p ∧ q) ∧
    (classify r .h w = .s ↔ q) ∧ (classify r .h w = .p ↔ ¬ q ∧ p) ∧
    (∀ k, classify r k w = .u ↔ ¬ p ∧ ¬ q) ∧
    (p → q → (w.ez = w.eh ∧ r.pRatio = 16 ∧ r.sRatio = 16) ∨ (w.ez = 0 ∧ w.eh = 0))

/-! ### The Context Engine (chapter 6) -/

/-- The number that an own event or a bare onset takes is the first from 1 to 65,535 after the event counter, 1 following
65,535, that no context in OPEN or CODA holds (R102). -/
def Obligations.EventNumberIsTheNextNotHeld : Prop :=
  ∀ s : State, s.engine.counter ≤ 65535 →
    let held := fun (n : Nat) => ∃ i c, s.ctx i = some c ∧ c.state ≠ .measure ∧ c.event = n
    let steps := fun (n : Nat) => (n + 65535 - s.engine.counter - 1) % 65535
    1 ≤ s.freshNumber ∧ s.freshNumber ≤ 65535 ∧ ¬ held s.freshNumber ∧
    ∀ n, 1 ≤ n → n ≤ 65535 → steps n < steps s.freshNumber → held n

/-- ENGINE_TRIAD: the oldest results are applied to the contexts in the onset order of the pool as it stood, then their
triggers are taken in order, and then the engine reports at the triad's end; a notice that is due goes first. The onset
order lists every slot that is not FREE once, the smaller onset first and of equal onsets the lower slot (R85, R86, R96,
R98). -/
def Obligations.EngineTriadTakesContextsThenTriggers : Prop :=
  (∀ (r : Results) (rest : List Results) (s : State), s.engine.inbox = r :: rest →
    ((∀ n ns, s.engine.notices = n :: ns → n.ahead ≠ 0) →
      exec .engineTriad s = .next (report false (r.triggers.foldl (takeTrigger r)
        ((onsetOrder s.engine.pool).foldl (contextTurn r) { s with engine := { s.engine with
          inbox := rest
          notices := s.engine.notices.map (fun n => { n with ahead := n.ahead - 1 }) } })))) ∧
    (∀ n ns, s.engine.notices = n :: ns → n.ahead = 0 → exec .engineTriad s = .next s)) ∧
  ∀ (pool : Vector (Option Context) 8),
    (onsetOrder pool).Nodup ∧ (∀ i, i ∈ onsetOrder pool ↔ pool.get i ≠ none) ∧
    (onsetOrder pool).Pairwise (fun i j =>
      ∀ c d, pool.get i = some c → pool.get j = some d → c.onset < d.onset ∨ (c.onset = d.onset ∧ i < j))

/-- A trigger that matches a context adds its band to that context's mask and does nothing else. One that matches none is
given the first FREE slot after the allocation pointer; with none FREE, the slot of the oldest CODA context, closed as
EVICTED, counted and flagged; and with none of these it becomes a bare onset of slot 8 that leaves the pool and the pointer
as they are (R84, R99 to R101). Its time is the alignment time plus the onset index times P (R81, R126); that it is formed
back from the time of the trigger's triad, and cut to 64 bits, is the model's deduction (log entry 25). -/
def Obligations.TriggerIsMergedAllocatedOrBare : Prop :=
  ∀ (r : Results) (t : Trigger) (s : State),
    let f := searchOnset s t
    let time := (r.time - f.quality * s.period) % 2 ^ 64
    (∀ alignTime, r.time = alignTime + t.index * s.period → time = (alignTime + f.onset * s.period) % 2 ^ 64) ∧
    (∀ i c, mergeTarget s t.det.kind f.onset = some i → s.ctx i = some c →
      takeTrigger r s t = s.setCtx i (some { c with
        mask := ⟨c.mask.b0 || decide (t.det.band = .b0), c.mask.b1 || decide (t.det.band = .b1),
          c.mask.b2 || decide (t.det.band = .b2)⟩ })) ∧
    (mergeTarget s t.det.kind f.onset = none →
      (∀ k : Fin 8, s.ctx (s.engine.ptr + 1 + k) = none → (∀ j : Fin 8, j < k → s.ctx (s.engine.ptr + 1 + j) ≠ none) →
        takeTrigger r s t = allocateAt (s.engine.ptr + 1 + k) t f time s) ∧
      ((∀ i, s.ctx i ≠ none) →
        (∀ i c, s.ctx i = some c → c.state = .coda →
          (∀ j d, s.ctx j = some d → d.state = .coda → j ≠ i → c.onset < d.onset ∨ (c.onset = d.onset ∧ i < j)) →
          takeTrigger r s t =
            allocateAt i t f time (((closeContext .evicted i c s).bump .evictions 1).latch .eviction)) ∧
        ((∀ i c, s.ctx i = some c → c.state ≠ .coda) →
          takeTrigger r s t = ((admitRecord
            (.onset
              { event := s.freshNumber, slot := 8, phase := .u, time := time, quality := f.quality
                mask := PerBand.of (fun b => decide (b = t.det.band)), kind := t.det.kind
                flags := ⟨f.truncated, false, .all false⟩, noContext := true, incomplete := false, single := true
                measurement := none })
            { s with engine := { s.engine with counter := s.freshNumber } }).bump .bareOnsets 1).latch .noContext)))

/-- Allocation sets up a candidate in MEASURE from its trigger, points the allocation pointer at its slot and sums the
window entries the ring already holds, oldest first; a window that they complete is completed at once (R87, R88, R99). -/
def Obligations.AllocationStartsTheMeasurement : Prop :=
  ∀ (i : Fin 8) (t : Trigger) (f : Found) (time : Nat) (s : State), 1 ≤ s.rules.fmWindow →
    let fresh : Context :=
      { state := .measure, event := 0, phase := none, kind := t.det.kind, band := t.det.band
        onset := f.onset, onsetTime := time, quality := f.quality
        mask := PerBand.of (fun b => decide (b = t.det.band))
        lh := if t.det.kind = .v then some t.lh else none
        window := ⟨0, 0, 0, if t.det.kind = .v then .pending else .absent, false⟩
        parent := none, sPart := none, sAbsent := false, secondaries := 0, peaks := .all ⟨0, 0⟩
        truncated := f.truncated, bridged := false, clip := .all false, long := false, codaCount := 0
        life := t.index - f.onset }
    let entries := (s.array.rings.get t.det.band).filter
      (fun e => decide (f.onset ≤ e.index ∧ e.index ≤ min t.index (f.onset + s.rules.fmWindow - 1)))
    let c := entries.foldl (sumEntry s.rules) fresh
    let u := { s with engine := { s.engine with ptr := i, pool := s.engine.pool.set i (some c) } }
    (t.index + 1 < f.onset + s.rules.fmWindow → allocateAt i t f time s = u) ∧
    (f.onset + s.rules.fmWindow ≤ t.index + 1 → allocateAt i t f time s = complete i c u)

/-- What a context does with a triad. In MEASURE: life count and LONG mark, then the triad's entry of its onset band summed
while it lies in the window, and completion at the window's last index or beyond it. In OPEN and CODA: life count, peaks
of the onset band and LONG mark; in OPEN the end of the S wait at the onset plus s_max plus fm_window, in CODA the coda
count by the detectors of the mask and the close as QUIET at the coda hold; then the close as LIFE at max_event (R89, R103,
R109 to R112, R114, R115). -/
def Obligations.ContextsActOnATriadByTheirState : Prop :=
  ∀ (r : Results) (i : Fin 8) (c : Context) (o : BandOut) (s : State),
    s.ctx i = some c → r.bands.get c.band = some o →
      let last := c.onset + s.rules.fmWindow - 1
      let k := r.index - c.onset
      let marked := { c with life := k, long := c.long || r.longs.any (fun b => c.mask.get b) }
      let peak := fun (y : Int) (p : Peak) => if y.natAbs ≤ p.magnitude then p else (⟨y.natAbs, k⟩ : Peak)
      let c' := { marked with peaks := ⟨peak o.y.z c.peaks.z, peak o.y.n c.peaks.n, peak o.y.e c.peaks.e⟩ }
      let live := fun (d : Context) =>
        if s.rules.maxEvent ≤ k then closeContext .life i d s else s.setCtx i (some d)
      (c.state = .measure →
        (r.index < last → contextTurn r s i = s.setCtx i (some (sumEntry s.rules marked o.entry))) ∧
        (r.index = last → contextTurn r s i = complete i (sumEntry s.rules marked o.entry) s) ∧
        (last < r.index → contextTurn r s i = complete i marked s)) ∧
      (c.state = .open_ → r.index < c.onset + s.rules.sMax + s.rules.fmWindow → contextTurn r s i = live c') ∧
      (c.state = .open_ → c.onset + s.rules.sMax + s.rules.fmWindow ≤ r.index →
        contextTurn r s i = live { c' with state := .coda, sAbsent := true, codaCount := 0 }) ∧
      (c.state = .coda →
        let heldBack := ∃ d : Det, c.mask.get d.band = true ∧ r.states.get d = .on
        ∀ n, (heldBack → n = 0) → (¬ heldBack → n = c.codaCount + 1) →
          (s.rules.codaHold ≤ n → contextTurn r s i = closeContext .quiet i { c' with codaCount := n } s) ∧
          (n < s.rules.codaHold → contextTurn r s i = live { c' with codaCount := n }))

/-- The parent of a candidate is the oldest other context of phase P in OPEN or CODA whose S window holds the onset, or
none (R104). -/
def Obligations.ParentIsTheOldestWithTheOnsetInItsWindow : Prop :=
  ∀ (s : State) (i : Fin 8) (onset : Nat),
    let fits := fun (j : Fin 8) (p : Context) => s.ctx j = some p ∧ j ≠ i ∧ p.state ≠ .measure ∧ p.phase = some .p ∧
      p.onset + s.rules.sMin ≤ onset ∧ onset ≤ p.onset + s.rules.sMax
    (parentOf s i onset = none ↔ ∀ j p, ¬ fits j p) ∧
    ∀ j, parentOf s i onset = some j →
      ∃ p, fits j p ∧ ∀ k q, fits k q → p.onset < q.onset ∨ (p.onset = q.onset ∧ j ≤ k)

/-- A completed candidate is resolved by its class and its parent: P, and S or U without a parent, become own events with
a new number and an ONSET record; S joins a parent without an S part, with a SECOND record, and brings it to CODA; every
other joins its parent as a secondary (R104 to R108). -/
def Obligations.CandidateIsResolvedByClassAndParent : Prop :=
  ∀ (i : Fin 8) (c : Context) (s : State),
    let cls := classify s.rules c.kind c.window
    let w : Window :=
      if c.window.polarity = .pending then { c.window with polarity := .unknown, polarityClipped := false }
      else c.window
    let n := s.freshNumber
    let own := fun (st : CtxState) =>
      admitRecord
        (.onset
          { event := n, slot := i.val, phase := cls, time := c.onsetTime, quality := c.quality, mask := c.mask
            kind := c.kind, flags := ⟨c.truncated, c.bridged, c.clip⟩, noContext := false, incomplete := false
            single := false, measurement := some ⟨w.polarity, w.polarityClipped, w.ez, w.eh⟩ })
        (({ s with engine := { s.engine with counter := n } } : State).setCtx i (some { c with
          state := st, event := n, phase := some cls, window := w, parent := none, sPart := none, sAbsent := false
          secondaries := 0, peaks := .all ⟨0, 0⟩, codaCount := 0 }))
    let joined := fun (p : Context) => { p with
      mask := ⟨p.mask.b0 || c.mask.b0, p.mask.b1 || c.mask.b1, p.mask.b2 || c.mask.b2⟩
      bridged := p.bridged || c.bridged
      clip := ⟨p.clip.z || c.clip.z, p.clip.n || c.clip.n, p.clip.e || c.clip.e⟩
      long := p.long || c.long }
    let sp : SPart :=
      ⟨c.onset, c.onsetTime, c.quality, c.mask, c.window.ez, c.window.eh, c.truncated, c.bridged, c.clip⟩
    (cls = .p → complete i c s = own .open_) ∧
    (cls ≠ .p → parentOf s i c.onset = none → complete i c s = own .coda) ∧
    ∀ j p, cls ≠ .p → parentOf s i c.onset = some j → s.ctx j = some p →
      (cls = .s → p.sPart = none →
        complete i c s =
          (admitRecord
            (.second ⟨p.event, c.onsetTime, c.quality, c.mask, c.window.ez, c.window.eh,
              ⟨c.truncated, c.bridged, c.clip⟩⟩)
            (s.setCtx j (some { joined p with
              sPart := some sp, state := .coda, codaCount := 0, sAbsent := false }))).setCtx i none) ∧
      (cls = .u ∨ p.sPart ≠ none →
        complete i c s =
          (s.setCtx j (some { joined p with secondaries := min (p.secondaries + 1) 255 })).setCtx i none)

/-- A context that closes generates one CLOSE record with its event number, the cause, its life count as the duration, its
S state, secondaries, flags and peaks, and its slot is FREE. A forced closure leaves every context FREE and the allocation
pointer as it was. It takes the contexts in onset order: one in OPEN or CODA closes, and a candidate in MEASURE takes a new
number and generates a bare ONSET record of its slot, marked INCOMPLETE and SINGLE, with its onset time, quality, mask and
kind and TRUNCATED alone of its marks, counted in BARE_ONSETS. With no candidate and room for the records, it adds one
CLOSE for each context, in onset order, and leaves the event counter (R113, R116, R128, R130). -/
def Obligations.ClosuresReportTheContextsAndFreeThem : Prop :=
  ∀ (cause : Cause) (s : State),
    let closing := fun (c : Context) => Record.close
      { event := c.event, cause := cause, duration := c.life, sPresent := c.sPart.isSome, sAbsent := c.sAbsent
        secondaries := c.secondaries, flags := ⟨c.truncated, c.bridged, c.clip⟩, long := c.long, short := false
        peaks := some c.peaks }
    (∀ i c, closeContext cause i c s = (admitRecord (closing c) s).setCtx i none ∧
      (closeContext cause i c s).ctx i = none ∧ ∀ j, j ≠ i → (closeContext cause i c s).ctx j = s.ctx j) ∧
    let incomplete := fun (i : Fin 8) (c : Context) (n : Nat) => Record.onset
      { event := n, slot := i.val, phase := .u, time := c.onsetTime, quality := c.quality, mask := c.mask
        kind := c.kind, flags := ⟨c.truncated, false, .all false⟩, noContext := false, incomplete := true
        single := true, measurement := none }
    let taken := fun (u : State) (i : Fin 8) =>
      match u.ctx i with
      | none => u
      | some c =>
        if c.state = .measure then
          ((admitRecord (incomplete i c u.freshNumber)
            { u with engine := { u.engine with counter := u.freshNumber } }).bump .bareOnsets 1).setCtx i none
        else (admitRecord (closing c) u).setCtx i none
    let t := forcedClosure cause s
    t = (onsetOrder s.engine.pool).foldl taken s ∧
    (∀ i, t.ctx i = none) ∧ t.engine.ptr = s.engine.ptr ∧
    (CountersBounded s → t.status.counters.bareOnsets = min (s.status.counters.bareOnsets +
      (slots.filter (fun i => (s.ctx i).any (fun c => decide (c.state = .measure)))).length) 4294967295) ∧
    ((∀ i c, s.ctx i = some c → c.state ≠ .measure) → s.arrivals.records.length + 8 ≤ min s.rules.watermark 32 →
      t.engine.counter = s.engine.counter ∧
      t.arrivals.records = s.arrivals.records ++
        (onsetOrder s.engine.pool).filterMap (fun i => (s.ctx i).map closing))

/-- A gap notice and a restart wait in each picking block until it has finished the triads issued before, and from then on
hold the next triad back. The bank then clears every section and ends FILTER_SATURATING; the array puts every detector that
runs into WARMING with its seed pending, leaves every other OFF and empties the rings; the engine closes the pool with
cause GAP or RESTART and reports, which takes a swap that waits (R31, R47, R48, R55, R74, R117, R118, R121, R153, R154,
R170). With no commit pending nothing more follows, nor with triads in progress, which is the model's deduction from R150
(log entry 12). That in FORCE_DUE the report counts as a notice's own when no earlier one stands before it is log entry 13.
The array also waits while the engine has triggers to search (log entry 10). -/
def Obligations.NoticesRestartThePickingBlocks : Prop :=
  ∀ (n : Notice) (rest : List Notice) (s : State),
    (s.bank.notices = n :: rest →
      let cleared := { s with bank := { s.bank with
        notices := rest, saturating := false, sections := PerBand.of (fun _ => .all ⟨⟨0, 0, 0, 0⟩, ⟨0, 0, 0, 0⟩⟩) } }
      (n = ⟨.gap, 0⟩ → exec .gapNoticeFilter s = .next cleared) ∧
      (n = ⟨.restart, 0⟩ → exec .restartFilter s = .next cleared) ∧
      (n.ahead = 0 → exec .filterTriad s = .next s) ∧
      (n.ahead ≠ 0 → exec .gapNoticeFilter s = .next s ∧ exec .restartFilter s = .next s)) ∧
    (s.array.notices = n :: rest →
      let restarted := { s with array := { s.array with
        notices := rest
        rings := ⟨[], [], []⟩
        dets := PerDet.of (fun d =>
          if (s.bandCfg d.band).enable = true ∧
              (match d.kind with
                | .v => (s.bandCfg d.band).vEnable
                | .h => (s.bandCfg d.band).hEnable) = true
          then ⟨.warming, 0, 0, true, 0, 0, 0⟩ else ⟨.off, 0, 0, false, 0, 0, 0⟩) } }
      ((∀ r ∈ s.engine.inbox, r.triggers = []) →
        (n = ⟨.gap, 0⟩ → exec .gapNoticeDetector s = .next restarted) ∧
        (n = ⟨.restart, 0⟩ → exec .restartDetector s = .next restarted)) ∧
      (n.ahead = 0 → exec .detectorTriad s = .next s) ∧
      (n.ahead ≠ 0 ∨ (∃ r ∈ s.engine.inbox, r.triggers ≠ []) →
        exec .gapNoticeDetector s = .next s ∧ exec .restartDetector s = .next s)) ∧
    (s.engine.notices = n :: rest →
      let t := { s with
        engine := { s.engine with notices := rest }
        tables := { s.tables with
          commit :=
            match s.tables.commit with
            | .forceDue earlier => .forceDue (earlier - 1)
            | other => other } }
      let own := decide (s.tables.commit = .forceDue 0)
      (n = ⟨.gap, 0⟩ → exec .gapNoticeEngine s = .next (report own (forcedClosure .gap t))) ∧
      (n = ⟨.restart, 0⟩ → exec .restartEngine s = .next (report own (forcedClosure .restart t))) ∧
      (s.tables.commit = .none ∨ s.inProgress ≠ 0 →
        (n = ⟨.gap, 0⟩ → exec .gapNoticeEngine s = .next (forcedClosure .gap t)) ∧
        (n = ⟨.restart, 0⟩ → exec .restartEngine s = .next (forcedClosure .restart t))) ∧
      (n.ahead ≠ 0 → exec .gapNoticeEngine s = .next s ∧ exec .restartEngine s = .next s))

/-! ### Records and the Arrival Queue (chapter 7) -/

/-- A generated record is admitted by the occupancy and the watermark: below it whole; from it to 31 a SINGLE onset is
discarded and counted, a CLOSE loses its peak list and gains SHORT, and any other is whole; at 32 it is discarded, counted
and QUEUE_FULL latched (R131, R133). -/
def Obligations.RecordIsAdmittedByTheOccupancy : Prop :=
  ∀ (o : OnsetRec) (x : SecondRec) (c : CloseRec) (s : State),
    let q := s.arrivals.records.length
    let w := s.rules.watermark
    let add := fun (r : Record) =>
      ({ s with arrivals := { s.arrivals with records := s.arrivals.records ++ [r] } } : State)
    (q < w → q < 32 → ∀ r, admitRecord r s = add r) ∧
    (w ≤ q → q < 32 →
      admitRecord (.onset o) s = (if o.single then s.bump .recordsDropped 1 else add (.onset o)) ∧
      admitRecord (.second x) s = add (.second x) ∧
      admitRecord (.close c) s = add (.close { c with short := true, peaks := none })) ∧
    (32 ≤ q → ∀ r, admitRecord r s = (s.bump .recordsDropped 1).latch .queueFull)

/-- The payloads of the part's own frames have the lengths and the fields of sections 11.2 to 11.4, the status summary byte
first: an ONSET of an own event 33 bytes, a bare one 19, a SECOND 28, a CLOSE 37 or short 13, a noise report 60, and a
reply its data and four bytes. Each field stands at its offset, most significant byte first, and a number is cut to its
field (R7, R178, R182, R184). -/
def Obligations.PartPayloadsHaveTheirLengths : Prop :=
  (∀ (bs : List Byte) (b : Byte), beNat [] = 0 ∧ beNat (bs ++ [b]) = beNat bs * 256 + b.toNat) ∧
  ∀ (o : OnsetRec) (x : SecondRec) (c : CloseRec) (n : NoiseReport) (r : Reply) (b : Byte),
    (
      let p := b :: (Record.onset o).bytes
      p.length = (if o.measurement = none then 19 else 33) ∧ p.getD 0 0 = b ∧ p.getD 1 0 = 1 ∧
      fieldAt p 2 2 = o.event % 2 ^ 16 ∧ fieldAt p 4 1 = o.slot % 2 ^ 8 ∧
      p.getD 5 0 = (match o.phase with | .p => 1 | .s => 2 | .u => 3) ∧
      fieldAt p 6 8 = o.time % 2 ^ 64 ∧ fieldAt p 14 1 = o.quality % 2 ^ 8 ∧ BandMaskAt p 15 o.mask ∧
      p.getD 16 0 = (match o.kind with | .v => 0 | .h => 1) ∧
      FlagWordAt p 17 o.flags false o.noContext o.incomplete o.single false ∧
      ∀ m, o.measurement = some m →
        (m.polarity ≠ .pending →
          p.getD 19 0 = (match m.polarity with | .up => 1 | .down => 2 | .unknown => 3 | _ => 0)) ∧
        p.getD 20 0 = (if m.polarityClipped then 1 else 0) ∧
        fieldAt p 21 6 = m.ez % 2 ^ 48 ∧ fieldAt p 27 6 = m.eh % 2 ^ 48) ∧
    (
      let p := b :: (Record.second x).bytes
      p.length = 28 ∧ p.getD 0 0 = b ∧ p.getD 1 0 = 2 ∧ fieldAt p 2 2 = x.event % 2 ^ 16 ∧
      fieldAt p 4 8 = x.time % 2 ^ 64 ∧ fieldAt p 12 1 = x.quality % 2 ^ 8 ∧ BandMaskAt p 13 x.mask ∧
      FlagWordAt p 14 x.flags false false false false false ∧
      fieldAt p 16 6 = x.ez % 2 ^ 48 ∧ fieldAt p 22 6 = x.eh % 2 ^ 48) ∧
    (
      let p := b :: (Record.close c).bytes
      p.length = (if c.peaks = none then 13 else 37) ∧ p.getD 0 0 = b ∧ p.getD 1 0 = 3 ∧
      fieldAt p 2 2 = c.event % 2 ^ 16 ∧
      p.getD 4 0 = (match c.cause with
        | .quiet => 1 | .evicted => 2 | .life => 3 | .gap => 4 | .restart => 5 | .reconfig => 6) ∧
      fieldAt p 5 4 = c.duration % 2 ^ 32 ∧
      (∀ i, (p.getD 9 0).getLsbD i = [c.sPresent, c.sAbsent].getD i false) ∧
      fieldAt p 10 1 = c.secondaries % 2 ^ 8 ∧ FlagWordAt p 11 c.flags c.long false false false c.short ∧
      ∀ k, c.peaks = some k → PeakAt p 13 0 k.z ∧ PeakAt p 21 1 k.n ∧ PeakAt p 29 2 k.e) ∧
    (
      let p := b :: n.bytes
      p.length = 60 ∧ p.getD 0 0 = b ∧ p.getD 1 0 = (match n.picker with | .disarmed => 0 | .running => 1) ∧
      fieldAt p 2 1 = n.occupancy % 2 ^ 8 ∧ FlagsAt p 3 n.flags ∧ EntriesAt p 6 n.dets) ∧
    (
      let p := b :: r.bytes
      p.length = r.data.length + 4 ∧ p.getD 0 0 = b ∧ p.getD 1 0 = r.tag ∧ p.getD 2 0 = r.code ∧
      p.getD 3 0 = (match r.result with
        | .done => 0 | .unknown => 1 | .malformed => 2 | .busy => 3 | .unwritten => 4 | .locked => 5 | .nothing => 6
        | .duplicateId => 7) ∧
      p.drop 4 = r.data)

/-! ### Tables and the commit (chapter 8) -/

/-- R142 and R143: TABLE_WRITE is MALFORMED when its table, data count or extent is wrong, BUSY while a commit is pending,
LOCKED for a guarded Channel Map, and otherwise puts its bytes into the shadow image, sets the written mark and changes no
other byte of any image; TABLE_READ answers the bytes of the image asked for, 0 past its end and for an invalid active
image, and is MALFORMED for any other bank, table or length. -/
def Obligations.ShadowTablesAreWrittenAndRead : Prop :=
  ∀ (tag : Byte) (ps : List Byte) (s : State), TablesSized s →
    (Ready (.tableWrite tag ps) s →
      let num := (ps.getD 0 0).toNat
      let off := (ps.getD 1 0).toNat
      let data := ps.drop 2
      (ps.length < 2 ∨ 4 ≤ num ∨ data = [] ∨ 128 < data.length ∨ (∀ t, Table.ofNumber num = some t → t.size < off + data.length) →
        exec (.tableWrite tag ps) s = .next (answered tag 0x10 .malformed [] s)) ∧
      ∀ t, Table.ofNumber num = some t → 1 ≤ data.length → data.length ≤ 128 → off + data.length ≤ t.size →
        (s.tables.commit ≠ .none → exec (.tableWrite tag ps) s = .next (answered tag 0x10 .busy [] s)) ∧
        (s.tables.commit = .none → t = .chan → s.tables.guard ≠ none →
          exec (.tableWrite tag ps) s = .next (answered tag 0x10 .locked [] s)) ∧
        (s.tables.commit = .none → t ≠ .chan ∨ s.tables.guard = none →
          ∃ (img : List Byte) (shadow : PerTable (List Byte)) (written : PerTable Bool),
            exec (.tableWrite tag ps) s = .next (answered tag 0x10 .done []
              { s with tables := { s.tables with shadow := shadow, written := written } }) ∧
            (∀ u, shadow.get u = if u = t then img else s.tables.shadow.get u) ∧
            (∀ u, written.get u = if u = t then true else s.tables.written.get u) ∧
            img.length = t.size ∧
            ∀ i, i < t.size →
              img.getD i 0 = if off ≤ i ∧ i < off + data.length then data.getD (i - off) 0
                else (s.tables.shadow.get t).getD i 0)) ∧
    (Ready (.tableRead tag ps) s →
      (ps.length ≠ 4 ∨ 2 ≤ (ps.getD 0 0).toNat ∨ 4 ≤ (ps.getD 1 0).toNat ∨ 128 < (ps.getD 3 0).toNat →
        exec (.tableRead tag ps) s = .next (answered tag 0x11 .malformed [] s)) ∧
      ∀ bank num off len t, ps = [bank, num, off, len] → bank.toNat ≤ 1 → Table.ofNumber num.toNat = some t →
        len.toNat ≤ 128 →
        ∃ data, exec (.tableRead tag ps) s = .next (answered tag 0x11 .done data s) ∧ data.length = len.toNat ∧
          ∀ i, i < len.toNat → data.getD i 0 =
            if off.toNat + i < t.size then
              if bank = 1 then (s.tables.shadow.get t).getD (off.toNat + i) 0
              else if s.tables.valid.get t = true then (s.tables.active.get t).getD (off.toNat + i) 0 else 0
            else 0)

/-- Clamping brings every field of four full images into its range: a field outside takes the nearer end or its stated
value, each in the order of the rules against the fields clamped before it; every other byte and bit stays, and each field
that changed is counted once, at most 75. Images that are in range already stay as they are, with a count of 0 (R145 to
R147, R183, R185). -/
def Obligations.ClampingBringsEveryFieldIntoRange : Prop :=
  ∀ t : PerTable (List Byte), ImagesSized t →
    let u := (clampAll t).1
    let m := readChannelMap t.chan
    let within := fun (lo hi v : Nat) => if v < lo then lo else if hi < v then hi else v
    let orElse := fun (lo hi other v : Nat) => if v < lo ∨ hi < v then other else v
    let clipped := fun (x : StreamCfg) => { x with clip := within 1 8388607 x.clip }
    readChannelMap u.chan =
      { m with
        rate := orElse 0 6 3 m.rate
        stall := within 100 10000 m.stall
        bridge := orElse 0 16 16 m.bridge
        streams := ⟨clipped m.streams.z, clipped m.streams.n, clipped m.streams.e⟩ } ∧
    (∀ b, readBand u.band b =
      { readBand t.band b with
        vShift := orElse 0 30 30 (readBand t.band b).vShift
        hShift := orElse 0 30 30 (readBand t.band b).hShift }) ∧
    (∀ d,
      let p := readProfile t.prof d
      let ks := within 1 8 p.ks
      let kl := within (ks + 1) 15 p.kl
      let thrOn := within 17 1023 p.thrOn
      readProfile u.prof d =
        { ks := ks, kl := kl, thrOn := thrOn, thrOff := within 16 (thrOn - 1) p.thrOff
          floor := orElse 1 16777215 1 p.floor, onsetFactor := within 16 1023 p.onsetFactor
          depth := within 1 127 p.depth, warmUp := orElse (2 ^ kl) 65535 (2 ^ kl) p.warmUp
          maxOn := orElse 1 65535 1 p.maxOn }) ∧
    (
      let r := readRules t.rules
      let fmWindow := within 4 64 r.fmWindow
      let sMin := orElse 1 65535 1 r.sMin
      let sMax := orElse sMin 65535 sMin r.sMax
      readRules u.rules =
        { fmWindow := fmWindow, fmFactor := within 16 1023 r.fmFactor, pRatio := within 16 1023 r.pRatio
          sRatio := within 16 1023 r.sRatio, sMin := sMin, sMax := sMax, merge := r.merge
          codaHold := orElse 1 65535 1 r.codaHold, maxEvent := within (sMax + fmWindow) 1000000 r.maxEvent
          watermark := within 8 32 r.watermark }) ∧
    (∀ i, i ∈ [4, 5, 6, 10, 11, 15, 16] ∨ 20 ≤ i → u.chan.getD i 0 = t.chan.getD i 0) ∧
    (∀ (b : Band) (k : Nat), 5 ≤ k →
      (u.band.getD (bandOffset b + 1) 0).getLsbD k = (t.band.getD (bandOffset b + 1) 0).getLsbD k) ∧
    (∀ (d : Det) (i : Nat), 16 ≤ i → i < 24 → u.prof.getD (profOffset d + i) 0 = t.prof.getD (profOffset d + i) 0) ∧
    (∀ i, 19 ≤ i → u.rules.getD i 0 = t.rules.getD i 0) ∧
    (clampAll t).2 = (((clampedFields t).zip (clampedFields u)).filter (fun x => decide (x.1 ≠ x.2))).length ∧
    InRange u ∧ ImagesSized u ∧ (clampAll t).2 ≤ 75 ∧ (InRange t → clampAll t = (t, 0)) ∧
    duplicateIds u.chan = duplicateIds t.chan

/-- TABLES_COMMIT: MALFORMED, BUSY, UNWRITTEN and DUPLICATE_ID in this order; else the shadow is clamped and the reply
gives the clamp count, the dirty set and the outcome. With neither the Band Table nor the Channel Map dirty the swap is
taken at once or at the next boundary; else at once while DISARMED or at a quiet point, and otherwise it waits for one as
long as the limit, or with a limit of 0 is forced (R144, R145, R148, R151, R153, R154). -/
def Obligations.CommitIsCheckedClampedAndStarted : Prop :=
  ∀ (tag hi lo : Byte) (s : State), Ready (.tablesCommit tag [hi, lo]) s →
    let limit := hi.toNat * 256 + lo.toNat
    let run := exec (.tablesCommit tag [hi, lo]) s
    let u := ({ s with tables := { s.tables with shadow := (clampAll s.tables.shadow).1 } } : State).latchIf
      (decide ((clampAll s.tables.shadow).2 ≠ 0)) .clamped
    let dirty := fun (t : Table) => s.tables.valid.get t = false ∨ u.tables.shadow.get t ≠ s.tables.active.get t
    let reply := fun (outcome : Byte) (v : State) =>
      ∃ marks : Byte, (∀ t n, Table.ofNumber n = some t → (marks.getLsbD n = true ↔ dirty t)) ∧ marks.toNat < 16 ∧
        run = .next (answered tag 0x12 .done [BitVec.ofNat 8 (clampAll s.tables.shadow).2, marks, outcome] v)
    let wait := fun (c : CommitState) => ({ u with tables := { u.tables with commit := c } } : State)
    let allWritten := s.tables.written = ⟨true, true, true, true⟩
    (600 < limit → run = .next (answered tag 0x12 .malformed [] s)) ∧
    (limit ≤ 600 → s.tables.commit ≠ .none → run = .next (answered tag 0x12 .busy [] s)) ∧
    (limit ≤ 600 → s.tables.commit = .none → ¬ allWritten → run = .next (answered tag 0x12 .unwritten [] s)) ∧
    (limit ≤ 600 → s.tables.commit = .none → allWritten → duplicateIds s.tables.shadow.chan = true →
      run = .next (answered tag 0x12 .duplicateId [] s)) ∧
    (limit ≤ 600 → s.tables.commit = .none → allWritten → duplicateIds s.tables.shadow.chan = false →
      (¬ dirty .band → ¬ dirty .chan →
        (s.inProgress = 0 → reply 0 (swapPlain u)) ∧ (s.inProgress ≠ 0 → reply 0 (wait .nextBoundary))) ∧
      (dirty .band ∨ dirty .chan →
        (s.tables.picker = .disarmed ∨ ((∀ i, s.ctx i = none) ∧ s.inProgress = 0) → reply 1 (swapWithReset u)) ∧
        (s.tables.picker = .running → (∃ i, s.ctx i ≠ none) ∨ s.inProgress ≠ 0 →
          (1 ≤ limit → reply 2 (wait (.quietWait (limit * 1000) 0))) ∧
          (limit = 0 → s.inProgress = 0 → reply 2 (forcedSwap u)) ∧
          (limit = 0 → s.inProgress ≠ 0 → reply 2 (wait (.forceDue s.engine.notices.length))))))

/-- A swap makes the four shadow images active and valid in one step, latches SWAPPED, ends the commit and leaves the
picker RUNNING. Without band reset every detector keeps its state, but for an on_count above the new max_on. With one the
filters, the detectors under the new Band Table and the rings start afresh, and after a Channel Map change the assembler
and the stall timers too. A forced swap closes the pool first and latches COMMIT_FORCED (R68, R69, R149, R151, R152,
R154). -/
def Obligations.SwapsActivateTheShadowTables : Prop :=
  ∀ s : State,
    let swapped := ({ s with tables := { s.tables with
      active := s.tables.shadow, valid := ⟨true, true, true, true⟩, commit := .none, picker := .running } } :
      State).latch .swapped
    let runs := fun (d : Det) =>
      (readBand s.tables.shadow.band d.band).enable = true ∧
        (match d.kind with
          | .v => (readBand s.tables.shadow.band d.band).vEnable
          | .h => (readBand s.tables.shadow.band d.band).hEnable) = true
    swapPlain s = { swapped with array := { s.array with
      dets := PerDet.of (fun d =>
        let x := s.array.dets.get d
        if x.state = .on then { x with onCount := min x.onCount (readProfile s.tables.shadow.prof d).maxOn } else x) } } ∧
    (∀ dets, (∀ d, dets.get d =
        (if runs d then ⟨.warming, 0, 0, true, 0, 0, 0⟩ else ⟨.off, 0, 0, false, 0, 0, 0⟩ : Detector)) →
      let cleared := { swapped with
        bank := { s.bank with
          sections := PerBand.of (fun _ => .all ⟨⟨0, 0, 0, 0⟩, ⟨0, 0, 0, 0⟩⟩), saturating := false }
        array := { s.array with dets := dets, rings := ⟨[], [], []⟩ } }
      (s.tables.valid.chan = true → s.tables.shadow.chan = s.tables.active.chan → swapWithReset s = cleared) ∧
      (s.tables.valid.chan = false ∨ s.tables.shadow.chan ≠ s.tables.active.chan →
        swapWithReset s = { cleared with asm := { s.asm with
          phase := .unsynced, comps := .all ⟨none, []⟩, stall := .all ⟨some 0, false⟩ } })) ∧
    forcedSwap s = (swapWithReset (forcedClosure .reconfig s)).latch .commitForced

/-- COMMIT_WAIT_EXPIRY in QUIET_WAIT once the wait limit has passed forces the swap with no triad in progress and otherwise
makes it due; before that, and outside QUIET_WAIT, there is no expiry, and the row changes nothing (log entries 1 and 3).
The engine's report swaps only with no triad in progress: a BOUNDARY commit whatever the pool, a waiting one when every
context is FREE, and one that is due by force whatever the report says. Only when a gap or a restart has come in FORCE_DUE
does one that is due wait past the reports before it for that notice's own, which is the model's deduction (log entry 13)
(R150, R151, R153, R154; log entry 12). -/
def Obligations.ReportsAndExpiryTakeTheWaitingSwap : Prop :=
  ∀ (limit elapsed earlier : Nat) (own : Bool) (s : State),
    (s.tables.commit = .quietWait limit elapsed →
      (elapsed < limit → exec .commitWaitExpiry s = .next s) ∧
      (limit ≤ elapsed → s.inProgress = 0 → exec .commitWaitExpiry s = .next (forcedSwap s)) ∧
      (limit ≤ elapsed → s.inProgress ≠ 0 → exec .commitWaitExpiry s =
        .next { s with tables := { s.tables with commit := .forceDue s.engine.notices.length } }) ∧
      (s.inProgress = 0 → (∀ i, s.ctx i = none) → report own s = swapWithReset s) ∧
      ((∃ i, s.ctx i ≠ none) → report own s = s)) ∧
    ((∀ l e, s.tables.commit ≠ .quietWait l e) → exec .commitWaitExpiry s = .next s) ∧
    (s.inProgress ≠ 0 → report own s = s) ∧
    (s.tables.commit = .none → report own s = s) ∧
    (s.tables.commit = .nextBoundary → s.inProgress = 0 → report own s = swapPlain s) ∧
    (s.tables.commit = .forceDue earlier → s.inProgress = 0 →
      (own = true ∨ s.engine.notices.length ≤ earlier → report own s = forcedSwap s) ∧
      (own = false → earlier < s.engine.notices.length → report own s = s))

/-- COMMIT_CANCEL ends a pending commit with no swap, and finds NOTHING without one; MAP_GUARD closes an open guard with
its code and opens a closed one with that code alone (R155, R156). -/
def Obligations.CancelAndGuardAnswerByTheirState : Prop :=
  ∀ (tag op code : Byte) (s : State),
    (Ready (.commitCancel tag []) s →
      (s.tables.commit = .none → exec (.commitCancel tag []) s = .next (answered tag 0x13 .nothing [] s)) ∧
      (s.tables.commit ≠ .none → exec (.commitCancel tag []) s =
        .next (answered tag 0x13 .done [] { s with tables := { s.tables with commit := .none } }))) ∧
    (Ready (.mapGuard tag [op, code]) s →
      let run := exec (.mapGuard tag [op, code]) s
      let set := fun (g : Option Byte) =>
        answered tag 0x14 .done [] { s with tables := { s.tables with guard := g } }
      (code = 0 ∨ 2 ≤ op.toNat → run = .next (answered tag 0x14 .malformed [] s)) ∧
      (code ≠ 0 → op = 0 → s.tables.guard = none → run = .next (set (some code))) ∧
      (code ≠ 0 → op = 0 → s.tables.guard ≠ none → run = .next (answered tag 0x14 .busy [] s)) ∧
      (code ≠ 0 → op = 1 → s.tables.guard = some code → run = .next (set none)) ∧
      (∀ stored, code ≠ 0 → op = 1 → s.tables.guard = some stored → stored ≠ code →
        run = .next (answered tag 0x14 .locked [] s)) ∧
      (code ≠ 0 → op = 1 → s.tables.guard = none → run = .next (answered tag 0x14 .nothing [] s)))

/-! ### The command channel and the Status Unit (chapters 9 and 10) -/

/-- Every command row's payload decodes to that row. A command is discarded while a reset is pending; an empty payload is
counted in BAD_COMMANDS; with 4 replies waiting a command is not executed and REPLY_OVERRUN is latched; a tag alone is
MALFORMED and an unknown code UNKNOWN, and so is MALFORMED a command of fixed form with parameters of any other length
(R160, R183, section 11.2). A row whose payload is not the oldest that waits is not taken (log entry 4). -/
def Obligations.CommandsAreJudgedInOrder : Prop :=
  (∀ (c : Instr) (n : Nat) (tag code : Byte) (ps : List Byte) (s : State), Ready c s → ps.length ≠ n →
    (c, n, code) ∈ [(Instr.statusRead tag ps, 1, 0x02), (.flagsClear tag ps, 4, 0x03), (.attentionMask tag ps, 3, 0x04),
      (.tableRead tag ps, 4, 0x11), (.tablesCommit tag ps, 2, 0x12), (.commitCancel tag ps, 0, 0x13),
      (.mapGuard tag ps, 2, 0x14), (.egressMode tag ps, 1, 0x20), (.arrivalsFlush tag ps, 0, 0x21),
      (.reportInterval tag ps, 2, 0x22), (.pickerRestart tag ps, 0, 0x30), (.partReset tag ps, 0, 0x31)] →
    exec c s = .next (answered tag code .malformed [] s)) ∧
  ∀ (c : Instr) (p : List Byte) (s : State), wellFormed c = true → encodePayload c = some p →
    let turn := s.cmd.inbox = [] ∨ s.cmd.inbox.head? = some p
    let t := { s with cmd := { s.cmd with inbox := s.cmd.inbox.tail } }
    decodePayload p = c ∧
    (¬ turn → exec c s = .next s) ∧
    (turn → s.cmd.resetPending = true → exec c s = .next t) ∧
    (turn → s.cmd.resetPending = false → p = [] → exec c s = .next (t.bump .badCommands 1)) ∧
    (turn → s.cmd.resetPending = false → p ≠ [] → 4 ≤ s.cmd.replies.length →
      exec c s = .next (t.latch .replyOverrun)) ∧
    (Ready c s → ∀ tag, p = [tag] → exec c s = .next (answered tag 0 .malformed [] s)) ∧
    (Ready c s → ∀ tag code ps, p = tag :: code :: ps → c = .commandUndecoded p →
      exec c s = .next (answered tag code .unknown [] s))

/-- R163, R164 and R180: ECHO answers up to 250 data bytes as they are. STATUS_READ answers the first bytes of the status
block, padded with zeros, to exactly the length asked for, 0 to 250. Both are MALFORMED beyond, and change nothing but the
Reply Queue and the inbox that the command leaves. The block's 148 bytes stand as section 11.4 lays them out: picker,
assembler, detectors, pool, tables, Arrival Queue, reports, conditions and counters; after a full reset all are 0. -/
def Obligations.EchoAndStatusReadAnswerTheirData : Prop :=
  (∀ (tag len : Byte) (ps : List Byte) (s : State),
    (Ready (.echo tag ps) s →
      (ps.length ≤ 250 → exec (.echo tag ps) s = .next (answered tag 0x01 .done ps s)) ∧
      (250 < ps.length → exec (.echo tag ps) s = .next (answered tag 0x01 .malformed [] s))) ∧
    (Ready (.statusRead tag [len]) s →
      (250 < len.toNat → exec (.statusRead tag [len]) s = .next (answered tag 0x02 .malformed [] s)) ∧
      (len.toNat ≤ 250 → ∃ data, exec (.statusRead tag [len]) s = .next (answered tag 0x02 .done data s) ∧
        data.length = len.toNat ∧
        ∀ i, i < len.toNat → data.getD i 0 =
          if i < s.statusBlock.length then s.statusBlock.getD i 0 else 0))) ∧
  (∀ (straps : BitVec 2) (s : State),
    ∃ t, exec (.fullReset straps) s = .next t ∧ t.statusBlock = List.replicate 148 0) ∧
  ∀ s : State,
    let b := s.statusBlock
    b.length = 148 ∧
    b.getD 0 0 = (match s.tables.picker with | .disarmed => 0 | .running => 1) ∧
    b.getD 1 0 = (match s.asm.phase with | .unsynced => 0 | .aligned _ _ => 1) ∧
    EntriesAt b 2 (PerDet.of (fun d =>
      let x := s.array.dets.get d
      ⟨x.state, x.sta, x.lta⟩)) ∧
    (∀ i : Fin 8, match s.ctx i with
      | none => b.getD (56 + 3 * i.val) 0 = 0 ∧ fieldAt b (57 + 3 * i.val) 2 = 0
      | some c =>
        b.getD (56 + 3 * i.val) 0 = (match c.state with | .measure => 1 | .open_ => 2 | .coda => 3) ∧
        fieldAt b (57 + 3 * i.val) 2 = c.event % 2 ^ 16) ∧
    (PoolFits s → ∀ i c, s.ctx i = some c → c.state = .measure → fieldAt b (57 + 3 * i.val) 2 = 0) ∧
    fieldAt b 80 2 = s.engine.counter % 2 ^ 16 ∧
    b.getD 82 0 = (match s.tables.commit with
      | .none => 0 | .nextBoundary => 1 | .quietWait _ _ => 2 | .forceDue _ => 3) ∧
    fieldAt b 83 4 = (match s.tables.commit with | .quietWait limit elapsed => (limit - elapsed) % 2 ^ 32 | _ => 0) ∧
    b.getD 87 0 = (match s.tables.guard with | none => 0 | some _ => 1) ∧
    b.getD 88 0 = (match s.arrivals.mode with | .hold => 0 | .emit => 1) ∧
    fieldAt b 89 1 = s.arrivals.records.length % 2 ^ 8 ∧
    fieldAt b 90 1 = (if s.tables.valid.rules then s.rules.watermark % 2 ^ 8 else 0) ∧
    fieldAt b 91 2 = s.status.interval % 2 ^ 16 ∧
    (∀ i : Nat, (b.getD 93 0).getLsbD i = true ↔
      match i with
      | 0 => s.sp.lock = .locked
      | 1 => s.lp.lock = .locked
      | 2 => ∃ c, (s.asm.stall.get c).awaited = true
      | 3 => ∃ d, (s.array.dets.get d).state = .on
      | 4 => s.tables.commit ≠ .none
      | 5 => s.tables.valid.rules = true ∧ s.rules.watermark ≤ s.arrivals.records.length
      | 6 => s.bank.saturating = true
      | 7 => s.tables.picker = .running ∧ ∀ d : Det, ¬ ((s.bandCfg d.band).enable = true ∧
          (match d.kind with
            | .v => (s.bandCfg d.band).vEnable
            | .h => (s.bandCfg d.band).hEnable) = true)
      | _ => False) ∧
    FlagsAt b 94 s.status.flags ∧ FlagsAt b 97 s.status.mask ∧
    (
      let k := s.status.counters
      ∀ i, i < 12 → fieldAt b (100 + 4 * i) 4 =
        [k.framesForwarded, k.framesDropped, k.crcErrors, k.bytesSkipped, k.badCommands, k.bridges, k.overlaps,
          k.longGaps, k.triggers, k.evictions, k.bareOnsets, k.recordsDropped].getD i 0 % 2 ^ 32)

/-- The setting commands: FLAGS_CLEAR answers the flags as they stood, clears those its mask names and with its option on
zeroes the counters; ATTENTION_MASK and EGRESS_MODE replace what they name; ARRIVALS_FLUSH empties the queue into HOLD and
answers how many records went; REPORT_INTERVAL sets the interval and restarts or stops its timer. Values that are not
admitted are MALFORMED and change nothing (R137, R165 to R168, R183). -/
def Obligations.SettingCommandsWriteTheirState : Prop :=
  ∀ (tag a b c o : Byte) (s : State),
    let mask := a.toNat * 65536 + b.toNat * 256 + c.toNat
    let word := a.toNat * 256 + b.toNat
    (Ready (.flagsClear tag [a, b, c, o]) s →
      (2 ^ 20 ≤ mask ∨ 2 ≤ o.toNat → exec (.flagsClear tag [a, b, c, o]) s =
        .next (answered tag 0x03 .malformed [] s)) ∧
      (mask < 2 ^ 20 → o.toNat ≤ 1 → ∃ flags, (∀ f : Flag,
          flagSet flags f = true ↔ flagSet s.status.flags f = true ∧ flagSet (BitVec.ofNat 20 mask) f = false) ∧
        exec (.flagsClear tag [a, b, c, o]) s =
          .next (answered tag 0x03 .done
            [BitVec.ofNat 8 (s.status.flags.toNat / 65536), BitVec.ofNat 8 (s.status.flags.toNat / 256),
              BitVec.ofNat 8 s.status.flags.toNat]
            { s with status := { s.status with
              flags := flags
              counters := if o = 1 then ⟨0, 0, 0, 0, 0, 0, 0, 0, 0, 0, 0, 0⟩ else s.status.counters } }))) ∧
    (Ready (.attentionMask tag [a, b, c]) s →
      (2 ^ 20 ≤ mask → exec (.attentionMask tag [a, b, c]) s = .next (answered tag 0x04 .malformed [] s)) ∧
      (mask < 2 ^ 20 → exec (.attentionMask tag [a, b, c]) s =
        .next (answered tag 0x04 .done [] { s with status := { s.status with mask := BitVec.ofNat 20 mask } }))) ∧
    (Ready (.egressMode tag [a]) s →
      (2 ≤ a.toNat → exec (.egressMode tag [a]) s = .next (answered tag 0x20 .malformed [] s)) ∧
      (a.toNat ≤ 1 → exec (.egressMode tag [a]) s = .next (answered tag 0x20 .done []
        { s with arrivals := { s.arrivals with mode := if a = 0 then .hold else .emit } }))) ∧
    (Ready (.arrivalsFlush tag []) s → exec (.arrivalsFlush tag []) s = .next (answered tag 0x21 .done
      [BitVec.ofNat 8 s.arrivals.records.length] { s with arrivals := ⟨[], .hold⟩ })) ∧
    (Ready (.reportInterval tag [a, b]) s →
      (3600 < word → exec (.reportInterval tag [a, b]) s = .next (answered tag 0x22 .malformed [] s)) ∧
      (word ≤ 3600 → exec (.reportInterval tag [a, b]) s = .next (answered tag 0x22 .done []
        { s with status := { s.status with interval := word, timer := if word = 0 then none else some 0 } })))

/-- PICKER_RESTART finds NOTHING while DISARMED; while RUNNING it clears the assembler at once and sends a restart to each
picking block behind the triads issued before. PART_RESET is answered and sets the pending-reset mark, which names its
reply (R169 to R171). -/
def Obligations.RestartAndResetAreAnswered : Prop :=
  ∀ (tag : Byte) (s : State),
    (Ready (.pickerRestart tag []) s →
      (s.tables.picker = .disarmed → exec (.pickerRestart tag []) s = .next (answered tag 0x30 .nothing [] s)) ∧
      (s.tables.picker = .running → exec (.pickerRestart tag []) s = .next (answered tag 0x30 .done [] { s with
        asm := { s.asm with phase := .unsynced, comps := .all ⟨none, []⟩ }
        bank := { s.bank with notices := s.bank.notices ++ [⟨.restart, s.bank.inbox.length⟩] }
        array := { s.array with
          notices := s.array.notices ++ [⟨.restart, s.bank.inbox.length + s.array.inbox.length⟩] }
        engine := { s.engine with
          notices := s.engine.notices ++
            [⟨.restart, s.bank.inbox.length + s.array.inbox.length + s.engine.inbox.length⟩] } }))) ∧
    (Ready (.partReset tag []) s → exec (.partReset tag []) s = .next { s with cmd :=
      ⟨s.cmd.inbox.tail, s.cmd.replies ++ [⟨tag, 0x31, .done, [], true⟩], true⟩ })

/-- NOISE_TIMER_EXPIRY once as many seconds have passed as the interval says: the timer starts again and the report takes the
slot, in place of one that waits there. Before that no report is built, nor with the timer stopped (R177 to R179; log
entries 1 and 3). -/
def Obligations.NoiseReportTakesTheSlot : Prop :=
  ∀ (s : State), (s.status.timer = none → exec .noiseTimerExpiry s = .next s) ∧
    ∀ ms, s.status.timer = some ms →
    (ms < s.status.interval * 1000 → exec .noiseTimerExpiry s = .next s) ∧
    (s.status.interval * 1000 ≤ ms → exec .noiseTimerExpiry s = .next { s with status := { s.status with
      timer := some 0
      slot := some ⟨s.tables.picker, s.arrivals.records.length, s.status.flags,
        PerDet.of (fun d =>
          let x := s.array.dets.get d
          ⟨x.state, x.sta, x.lta⟩)⟩ } })

/-! ### Invariants -/

/-- The state after reset meets every invariant below. -/
def Obligations.ResetMeetsTheInvariants : Prop :=
  CapacitiesHold State.reset ∧ (FiltersFit State.reset ∧ OffBandsRest State.reset ∧ DetectorsFit State.reset) ∧
    (GridsKept State.reset ∧ HeadsTogether State.reset) ∧ PoolFits State.reset ∧ TablesLegal State.reset ∧
    DisarmedIsIdle State.reset

/-- No step takes a queue, a framer, a buffer, a ring or a counter past its capacity (R8, R13, R14, R22, R71, R132, R162,
R176). -/
def Obligations.EveryStepKeepsTheCapacities : Prop := Kept CapacitiesHold

/-- Every step keeps the outputs held by the filters within 24 bits, the sections of a band that is off at zero, and the
detectors' values within their widths and their states (R43, R46, R54, R57). -/
def Obligations.EveryStepKeepsFiltersAndDetectors : Prop :=
  Kept (fun s => FiltersFit s ∧ OffBandsRest s ∧ DetectorsFit s)

/-- Every step keeps the alignment buffers on their grids without a break and, while ALIGNED, the three next heads within
half a period of one another (R22, R34). -/
def Obligations.AlignedHeadsStayWithinHalfAPeriod : Prop := Kept (fun s => GridsKept s ∧ HeadsTogether s)

/-- Every step keeps the contexts' numbers, phases and S parts those of their states, and no nonzero event number is held
twice (R96, R102). -/
def Obligations.EveryStepKeepsThePool : Prop := Kept PoolFits

/-- Every step keeps the active tables valid together and in their ranges, with distinct channel ids, whatever is written
into the shadow tables (R19, R141, R144, R149, R157). -/
def Obligations.ActiveTablesStayLegal : Prop := Kept TablesLegal

/-- While the picker is DISARMED no step picks anything: no triad, no context, no record (R19, R35, R97, R157). -/
def Obligations.NothingIsPickedWhileDisarmed : Prop := Kept DisarmedIsIdle
end

