-- ==== Sys2Proof/Laws/Bytes.lean ====
section
/-! SUPPORT. Byte order, images and fields: a read after a write gives what was written, a write leaves every other byte
alone, and no operation on an image changes its size. -/

namespace Sys2Proof.Machine

/-! ### Byte order (R182) -/

@[simp] theorem beBytes_length (n v : Nat) : (beBytes n v).length = n := by
  induction n with
  | zero => rfl
  | succ n ih => simp [beBytes, ih]

theorem foldl_be (bs : List Byte) (acc : Nat) :
    bs.foldl (fun acc b => acc * 256 + b.toNat) acc = acc * 256 ^ bs.length + beNat bs := by
  induction bs generalizing acc with
  | nil => simp [beNat]
  | cons b bs ih => simp only [List.foldl_cons, beNat, List.length_cons]; rw [ih, ih (0 * 256 + b.toNat)]; ring

theorem beNat_cons (b : Byte) (bs : List Byte) : beNat (b :: bs) = b.toNat * 256 ^ bs.length + beNat bs := by
  simp only [beNat, List.foldl_cons, Nat.zero_mul, Nat.zero_add]
  rw [foldl_be]
  rfl

theorem beNat_lt (bs : List Byte) : beNat bs < 256 ^ bs.length := by
  induction bs with
  | nil => simp [beNat]
  | cons b bs ih =>
    rw [beNat_cons, List.length_cons, pow_succ]
    have hb : b.toNat < 256 := b.isLt
    have := Nat.mul_le_mul_right (256 ^ bs.length) (Nat.le_of_lt_succ hb)
    omega

/-- A number written in `n` bytes reads back modulo `256 ^ n`. -/
theorem beNat_beBytes (n v : Nat) : beNat (beBytes n v) = v % 256 ^ n := by
  induction n with
  | zero => simp [beBytes, beNat, Nat.mod_one]
  | succ n ih =>
    rw [beBytes, beNat_cons, ih, beBytes_length, BitVec.toNat_ofNat, Nat.pow_succ 256 n, Nat.mod_mul,
      Nat.add_comm, Nat.mul_comm]

@[simp] theorem beNat_one (b : Byte) : beNat [b] = b.toNat := by simp [beNat]
@[simp] theorem beNat_two (a b : Byte) : beNat [a, b] = a.toNat * 256 + b.toNat := by simp [beNat]

/-! ### Images (R142, R143) -/

/-- A write keeps the size of an image. -/
theorem writeAt_length (img : List Byte) (off : Nat) (bs : List Byte) (h : off + bs.length ≤ img.length) :
    (writeAt img off bs).length = img.length := by
  simp [writeAt, List.length_take, List.length_drop]
  omega

/-- A write that stays within an image replaces its bytes and no other. -/
theorem writeAt_getD (img : List Byte) (off : Nat) (bs : List Byte) (h : off + bs.length ≤ img.length) (i : Nat) :
    (writeAt img off bs).getD i 0 =
      if off ≤ i ∧ i < off + bs.length then bs.getD (i - off) 0 else img.getD i 0 := by
  have hl := writeAt_length img off bs h
  simp only [List.getD_eq_getElem?_getD, writeAt, List.getElem?_take, List.getElem?_append, List.getElem?_drop,
    List.length_append, List.length_take, Nat.min_eq_left (show off ≤ img.length by omega)]
  by_cases h1 : i < off
  · simp [h1, show i < img.length by omega, show ¬ off ≤ i by omega, show i < off + bs.length by omega]
  · by_cases h2 : i < off + bs.length
    · simp [h1, h2, show i < img.length by omega, show off ≤ i by omega]
    · have e : off + bs.length + (i - (off + bs.length)) = i := by omega
      by_cases h3 : i < img.length
      · simp [h2, h3, e]
      · simp [h2, h3]

@[simp] theorem readAt_length (img : List Byte) (off len : Nat) : (readAt img off len).length = len := by
  simp [readAt]

/-- A read gives the image's bytes, 0 past its end. -/
theorem readAt_getD (img : List Byte) (off len i : Nat) (h : i < len) :
    (readAt img off len).getD i 0 = img.getD (off + i) 0 := by
  simp [readAt, List.getD_eq_getElem?_getD, h]

/-- A field depends on its own bytes alone. -/
theorem fieldAt_congr (a b : List Byte) (off len : Nat) (hl : a.length = b.length)
    (h : ∀ i, off ≤ i → i < off + len → a.getD i 0 = b.getD i 0) : fieldAt a off len = fieldAt b off len := by
  have : (a.drop off).take len = (b.drop off).take len := by
    apply List.ext_getElem?
    intro i
    simp only [List.getElem?_take, List.getElem?_drop]
    by_cases hi : i < len
    · have := h (off + i) (by omega) (by omega)
      simp only [List.getD_eq_getElem?_getD] at this
      by_cases ha : off + i < a.length
      · rw [List.getElem?_eq_getElem ha, List.getElem?_eq_getElem (hl ▸ ha)] at this ⊢
        simp only [Option.getD_some] at this
        simp [hi, this]
      · rw [List.getElem?_eq_none (by omega), List.getElem?_eq_none (by omega)]
    · simp [hi]
  rw [fieldAt, fieldAt, this]

/-- A field written with a value reads as that value. -/
theorem fieldAt_writeAt_self (img : List Byte) (off len v : Nat) (h : off + len ≤ img.length) (hv : v < 256 ^ len) :
    fieldAt (writeAt img off (beBytes len v)) off len = v := by
  have e : (((writeAt img off (beBytes len v)).drop off).take len) = beBytes len v := by
    simp only [writeAt, beBytes_length]
    have h1 : (img.take off).length = off := by simp; omega
    rw [List.drop_take, List.take_take, List.append_assoc, List.drop_append_of_le_length (by omega),
      List.drop_eq_nil_of_le (by omega), List.nil_append,
      Nat.min_eq_left (by omega : len ≤ img.length - off), List.take_append_of_le_length (by simp),
      List.take_of_length_le (by simp)]
  rw [fieldAt, e, beNat_beBytes, Nat.mod_eq_of_lt hv]

/-- A write leaves every field that it does not meet as it was. -/
theorem fieldAt_writeAt_other (img : List Byte) (off len o : Nat) (bs : List Byte)
    (h : o + bs.length ≤ img.length) (hd : off + len ≤ o ∨ o + bs.length ≤ off) :
    fieldAt (writeAt img o bs) off len = fieldAt img off len := by
  apply fieldAt_congr _ _ _ _ (writeAt_length img o bs h)
  intro i h1 h2
  rw [writeAt_getD img o bs h, if_neg (by omega)]

/-- A field of `len` bytes holds less than `256 ^ len`. -/
theorem fieldAt_lt (img : List Byte) (off len : Nat) : fieldAt img off len < 256 ^ len :=
  lt_of_lt_of_le (beNat_lt _) (Nat.pow_le_pow_right (by norm_num) (by simp))

/-! ### Clamping (R145) -/

/-- A field's clamp: unchanged and not counted within its range, and otherwise rewritten and counted once. -/
theorem clampField_cases (off len lo hi below above : Nat) (c : Clamped) :
    (lo ≤ fieldAt c.img off len ∧ fieldAt c.img off len ≤ hi ∧ clampField off len lo hi below above c = c) ∨
    (fieldAt c.img off len < lo ∧
      clampField off len lo hi below above c = ⟨writeAt c.img off (beBytes len below), c.count + 1⟩) ∨
    (lo ≤ fieldAt c.img off len ∧ hi < fieldAt c.img off len ∧
      clampField off len lo hi below above c = ⟨writeAt c.img off (beBytes len above), c.count + 1⟩) := by
  simp only [clampField]
  by_cases h1 : fieldAt c.img off len < lo
  · exact .inr (.inl ⟨h1, by rw [if_pos h1]⟩)
  · by_cases h2 : hi < fieldAt c.img off len
    · exact .inr (.inr ⟨by omega, h2, by rw [if_neg h1, if_pos h2]⟩)
    · exact .inl ⟨by omega, by omega, by rw [if_neg h1, if_neg h2]⟩

/-- A field's clamp keeps the size of the image and counts at most one field. -/
theorem clampField_keeps (off len lo hi below above : Nat) (c : Clamped) (h : off + len ≤ c.img.length) :
    (clampField off len lo hi below above c).img.length = c.img.length ∧
      (clampField off len lo hi below above c).count ≤ c.count + 1 := by
  obtain ⟨-, -, e⟩ | ⟨-, e⟩ | ⟨-, -, e⟩ := clampField_cases off len lo hi below above c <;> rw [e]
  · exact ⟨rfl, by omega⟩
  · exact ⟨writeAt_length _ _ _ (by simpa using h), le_refl _⟩
  · exact ⟨writeAt_length _ _ _ (by simpa using h), le_refl _⟩

/-- A field's clamp leaves every byte outside the field as it was. -/
theorem clampField_frame (off len lo hi below above : Nat) (c : Clamped) (h : off + len ≤ c.img.length) (i : Nat)
    (hi' : i < off ∨ off + len ≤ i) :
    (clampField off len lo hi below above c).img.getD i 0 = c.img.getD i 0 := by
  obtain ⟨-, -, e⟩ | ⟨-, e⟩ | ⟨-, -, e⟩ := clampField_cases off len lo hi below above c <;> rw [e]
  all_goals
    rw [writeAt_getD _ _ _ (by simpa using h), if_neg (by simp only [beBytes_length]; omega)]

/-- A field's clamp brings the field into a range that holds both of the values it may write. -/
theorem clampField_inRange (off len lo hi below above : Nat) (c : Clamped) (h : off + len ≤ c.img.length)
    (hb : lo ≤ below ∧ below ≤ hi ∧ below < 256 ^ len) (ha : lo ≤ above ∧ above ≤ hi ∧ above < 256 ^ len) :
    lo ≤ fieldAt (clampField off len lo hi below above c).img off len ∧
      fieldAt (clampField off len lo hi below above c).img off len ≤ hi := by
  obtain ⟨h1, h2, e⟩ | ⟨-, e⟩ | ⟨-, -, e⟩ := clampField_cases off len lo hi below above c <;> rw [e]
  · exact ⟨h1, h2⟩
  · rw [fieldAt_writeAt_self _ _ _ _ h hb.2.2]; exact ⟨hb.1, hb.2.1⟩
  · rw [fieldAt_writeAt_self _ _ _ _ h ha.2.2]; exact ⟨ha.1, ha.2.1⟩

/-! ### Frames (R2, R3) -/

@[simp] theorem buildFrame_length (kind : Byte) (payload : List Byte) :
    (buildFrame kind payload).length = payload.length + 6 := by
  simp [buildFrame]

/-- A built frame carries its payload and its kind. -/
theorem framePayload_buildFrame (kind : Byte) (payload : List Byte) :
    framePayload (buildFrame kind payload) = payload ∧ frameKind (buildFrame kind payload) = kind := by
  refine ⟨?_, rfl⟩
  simp only [framePayload, buildFrame_length, Nat.add_sub_cancel]
  simp [buildFrame]

/-- A built frame is complete, and takes as many bytes as its length byte says, for a payload of at most 255. -/
theorem frameLength_buildFrame (kind : Byte) (payload : List Byte) (h : payload.length ≤ 255) :
    frameLength (buildFrame kind payload) = some (payload.length + 6) := by
  simp only [frameLength, buildFrame, List.cons_append, BitVec.toNat_ofNat]
  rw [Nat.mod_eq_of_lt (by omega)]

end Sys2Proof.Machine
end

