-- ==== Sys2Proof/Laws/State.lean ====
section
/-! SUPPORT. What each named update of the state leaves in each field: one lemma for each field, so that no proof unfolds
an update. -/

namespace Sys2Proof.Machine

/-! ### Flags and counters (R174, R176) -/

@[simp] theorem latch_pending (s : State) (f : Flag) : (s.latch f).pending = s.pending := rfl
@[simp] theorem latch_sp (s : State) (f : Flag) : (s.latch f).sp = s.sp := rfl
@[simp] theorem latch_lp (s : State) (f : Flag) : (s.latch f).lp = s.lp := rfl
@[simp] theorem latch_link (s : State) (f : Flag) : (s.latch f).link = s.link := rfl
@[simp] theorem latch_asm (s : State) (f : Flag) : (s.latch f).asm = s.asm := rfl
@[simp] theorem latch_bank (s : State) (f : Flag) : (s.latch f).bank = s.bank := rfl
@[simp] theorem latch_array (s : State) (f : Flag) : (s.latch f).array = s.array := rfl
@[simp] theorem latch_engine (s : State) (f : Flag) : (s.latch f).engine = s.engine := rfl
@[simp] theorem latch_arrivals (s : State) (f : Flag) : (s.latch f).arrivals = s.arrivals := rfl
@[simp] theorem latch_tables (s : State) (f : Flag) : (s.latch f).tables = s.tables := rfl
@[simp] theorem latch_cmd (s : State) (f : Flag) : (s.latch f).cmd = s.cmd := rfl
@[simp] theorem latch_status_flags (s : State) (f : Flag) : (s.latch f).status.flags = latchFlag s.status.flags f := rfl
@[simp] theorem latch_status_mask (s : State) (f : Flag) : (s.latch f).status.mask = s.status.mask := rfl
@[simp] theorem latch_status_counters (s : State) (f : Flag) : (s.latch f).status.counters = s.status.counters := rfl
@[simp] theorem latch_status_interval (s : State) (f : Flag) : (s.latch f).status.interval = s.status.interval := rfl
@[simp] theorem latch_status_timer (s : State) (f : Flag) : (s.latch f).status.timer = s.status.timer := rfl
@[simp] theorem latch_status_slot (s : State) (f : Flag) : (s.latch f).status.slot = s.status.slot := rfl

@[simp] theorem bump_pending (s : State) (k : Counter) (n : Nat) : (s.bump k n).pending = s.pending := rfl
@[simp] theorem bump_sp (s : State) (k : Counter) (n : Nat) : (s.bump k n).sp = s.sp := rfl
@[simp] theorem bump_lp (s : State) (k : Counter) (n : Nat) : (s.bump k n).lp = s.lp := rfl
@[simp] theorem bump_link (s : State) (k : Counter) (n : Nat) : (s.bump k n).link = s.link := rfl
@[simp] theorem bump_asm (s : State) (k : Counter) (n : Nat) : (s.bump k n).asm = s.asm := rfl
@[simp] theorem bump_bank (s : State) (k : Counter) (n : Nat) : (s.bump k n).bank = s.bank := rfl
@[simp] theorem bump_array (s : State) (k : Counter) (n : Nat) : (s.bump k n).array = s.array := rfl
@[simp] theorem bump_engine (s : State) (k : Counter) (n : Nat) : (s.bump k n).engine = s.engine := rfl
@[simp] theorem bump_arrivals (s : State) (k : Counter) (n : Nat) : (s.bump k n).arrivals = s.arrivals := rfl
@[simp] theorem bump_tables (s : State) (k : Counter) (n : Nat) : (s.bump k n).tables = s.tables := rfl
@[simp] theorem bump_cmd (s : State) (k : Counter) (n : Nat) : (s.bump k n).cmd = s.cmd := rfl
@[simp] theorem bump_status_flags (s : State) (k : Counter) (n : Nat) : (s.bump k n).status.flags = s.status.flags := rfl
@[simp] theorem bump_status_mask (s : State) (k : Counter) (n : Nat) : (s.bump k n).status.mask = s.status.mask := rfl
@[simp] theorem bump_status_counters (s : State) (k : Counter) (n : Nat) : (s.bump k n).status.counters = s.status.counters.bump k n := rfl
@[simp] theorem bump_status_interval (s : State) (k : Counter) (n : Nat) : (s.bump k n).status.interval = s.status.interval := rfl
@[simp] theorem bump_status_timer (s : State) (k : Counter) (n : Nat) : (s.bump k n).status.timer = s.status.timer := rfl
@[simp] theorem bump_status_slot (s : State) (k : Counter) (n : Nat) : (s.bump k n).status.slot = s.status.slot := rfl

/-! ### Framers (R8) -/

@[simp] theorem setFramer_sp_pending (s : State) (f : Framer) : (s.setFramer .sp f).pending = s.pending := rfl
@[simp] theorem setFramer_sp_lp (s : State) (f : Framer) : (s.setFramer .sp f).lp = s.lp := rfl
@[simp] theorem setFramer_sp_link (s : State) (f : Framer) : (s.setFramer .sp f).link = s.link := rfl
@[simp] theorem setFramer_sp_asm (s : State) (f : Framer) : (s.setFramer .sp f).asm = s.asm := rfl
@[simp] theorem setFramer_sp_bank (s : State) (f : Framer) : (s.setFramer .sp f).bank = s.bank := rfl
@[simp] theorem setFramer_sp_array (s : State) (f : Framer) : (s.setFramer .sp f).array = s.array := rfl
@[simp] theorem setFramer_sp_engine (s : State) (f : Framer) : (s.setFramer .sp f).engine = s.engine := rfl
@[simp] theorem setFramer_sp_arrivals (s : State) (f : Framer) : (s.setFramer .sp f).arrivals = s.arrivals := rfl
@[simp] theorem setFramer_sp_tables (s : State) (f : Framer) : (s.setFramer .sp f).tables = s.tables := rfl
@[simp] theorem setFramer_sp_cmd (s : State) (f : Framer) : (s.setFramer .sp f).cmd = s.cmd := rfl
@[simp] theorem setFramer_sp_status (s : State) (f : Framer) : (s.setFramer .sp f).status = s.status := rfl
@[simp] theorem setFramer_sp_self (s : State) (f : Framer) : (s.setFramer .sp f).sp = f := rfl

@[simp] theorem setFramer_lp_pending (s : State) (f : Framer) : (s.setFramer .lp f).pending = s.pending := rfl
@[simp] theorem setFramer_lp_sp (s : State) (f : Framer) : (s.setFramer .lp f).sp = s.sp := rfl
@[simp] theorem setFramer_lp_link (s : State) (f : Framer) : (s.setFramer .lp f).link = s.link := rfl
@[simp] theorem setFramer_lp_asm (s : State) (f : Framer) : (s.setFramer .lp f).asm = s.asm := rfl
@[simp] theorem setFramer_lp_bank (s : State) (f : Framer) : (s.setFramer .lp f).bank = s.bank := rfl
@[simp] theorem setFramer_lp_array (s : State) (f : Framer) : (s.setFramer .lp f).array = s.array := rfl
@[simp] theorem setFramer_lp_engine (s : State) (f : Framer) : (s.setFramer .lp f).engine = s.engine := rfl
@[simp] theorem setFramer_lp_arrivals (s : State) (f : Framer) : (s.setFramer .lp f).arrivals = s.arrivals := rfl
@[simp] theorem setFramer_lp_tables (s : State) (f : Framer) : (s.setFramer .lp f).tables = s.tables := rfl
@[simp] theorem setFramer_lp_cmd (s : State) (f : Framer) : (s.setFramer .lp f).cmd = s.cmd := rfl
@[simp] theorem setFramer_lp_status (s : State) (f : Framer) : (s.setFramer .lp f).status = s.status := rfl
@[simp] theorem setFramer_lp_self (s : State) (f : Framer) : (s.setFramer .lp f).lp = f := rfl

/-! ### The assembler (R5, R22, R36) -/

@[simp] theorem toAssembler_pending (s : State) (x : AsmItem) : (s.toAssembler x).pending = s.pending := rfl
@[simp] theorem toAssembler_sp (s : State) (x : AsmItem) : (s.toAssembler x).sp = s.sp := rfl
@[simp] theorem toAssembler_lp (s : State) (x : AsmItem) : (s.toAssembler x).lp = s.lp := rfl
@[simp] theorem toAssembler_link (s : State) (x : AsmItem) : (s.toAssembler x).link = s.link := rfl
@[simp] theorem toAssembler_bank (s : State) (x : AsmItem) : (s.toAssembler x).bank = s.bank := rfl
@[simp] theorem toAssembler_array (s : State) (x : AsmItem) : (s.toAssembler x).array = s.array := rfl
@[simp] theorem toAssembler_engine (s : State) (x : AsmItem) : (s.toAssembler x).engine = s.engine := rfl
@[simp] theorem toAssembler_arrivals (s : State) (x : AsmItem) : (s.toAssembler x).arrivals = s.arrivals := rfl
@[simp] theorem toAssembler_tables (s : State) (x : AsmItem) : (s.toAssembler x).tables = s.tables := rfl
@[simp] theorem toAssembler_cmd (s : State) (x : AsmItem) : (s.toAssembler x).cmd = s.cmd := rfl
@[simp] theorem toAssembler_status (s : State) (x : AsmItem) : (s.toAssembler x).status = s.status := rfl
@[simp] theorem toAssembler_asm_inbox (s : State) (x : AsmItem) : (s.toAssembler x).asm.inbox = s.asm.inbox ++ [x] := rfl
@[simp] theorem toAssembler_asm_phase (s : State) (x : AsmItem) : (s.toAssembler x).asm.phase = s.asm.phase := rfl
@[simp] theorem toAssembler_asm_comps (s : State) (x : AsmItem) : (s.toAssembler x).asm.comps = s.asm.comps := rfl
@[simp] theorem toAssembler_asm_stall (s : State) (x : AsmItem) : (s.toAssembler x).asm.stall = s.asm.stall := rfl

@[simp] theorem setComp_pending (s : State) (c : Comp) (x : CompState) : (s.setComp c x).pending = s.pending := rfl
@[simp] theorem setComp_sp (s : State) (c : Comp) (x : CompState) : (s.setComp c x).sp = s.sp := rfl
@[simp] theorem setComp_lp (s : State) (c : Comp) (x : CompState) : (s.setComp c x).lp = s.lp := rfl
@[simp] theorem setComp_link (s : State) (c : Comp) (x : CompState) : (s.setComp c x).link = s.link := rfl
@[simp] theorem setComp_bank (s : State) (c : Comp) (x : CompState) : (s.setComp c x).bank = s.bank := rfl
@[simp] theorem setComp_array (s : State) (c : Comp) (x : CompState) : (s.setComp c x).array = s.array := rfl
@[simp] theorem setComp_engine (s : State) (c : Comp) (x : CompState) : (s.setComp c x).engine = s.engine := rfl
@[simp] theorem setComp_arrivals (s : State) (c : Comp) (x : CompState) : (s.setComp c x).arrivals = s.arrivals := rfl
@[simp] theorem setComp_tables (s : State) (c : Comp) (x : CompState) : (s.setComp c x).tables = s.tables := rfl
@[simp] theorem setComp_cmd (s : State) (c : Comp) (x : CompState) : (s.setComp c x).cmd = s.cmd := rfl
@[simp] theorem setComp_status (s : State) (c : Comp) (x : CompState) : (s.setComp c x).status = s.status := rfl
@[simp] theorem setComp_asm_inbox (s : State) (c : Comp) (x : CompState) : (s.setComp c x).asm.inbox = s.asm.inbox := rfl
@[simp] theorem setComp_asm_phase (s : State) (c : Comp) (x : CompState) : (s.setComp c x).asm.phase = s.asm.phase := rfl
@[simp] theorem setComp_asm_comps (s : State) (c : Comp) (x : CompState) : (s.setComp c x).asm.comps = s.asm.comps.set c x := rfl
@[simp] theorem setComp_asm_stall (s : State) (c : Comp) (x : CompState) : (s.setComp c x).asm.stall = s.asm.stall := rfl

@[simp] theorem restartStall_pending (s : State) (c : Comp) : (restartStall c s).pending = s.pending := rfl
@[simp] theorem restartStall_sp (s : State) (c : Comp) : (restartStall c s).sp = s.sp := rfl
@[simp] theorem restartStall_lp (s : State) (c : Comp) : (restartStall c s).lp = s.lp := rfl
@[simp] theorem restartStall_link (s : State) (c : Comp) : (restartStall c s).link = s.link := rfl
@[simp] theorem restartStall_bank (s : State) (c : Comp) : (restartStall c s).bank = s.bank := rfl
@[simp] theorem restartStall_array (s : State) (c : Comp) : (restartStall c s).array = s.array := rfl
@[simp] theorem restartStall_engine (s : State) (c : Comp) : (restartStall c s).engine = s.engine := rfl
@[simp] theorem restartStall_arrivals (s : State) (c : Comp) : (restartStall c s).arrivals = s.arrivals := rfl
@[simp] theorem restartStall_tables (s : State) (c : Comp) : (restartStall c s).tables = s.tables := rfl
@[simp] theorem restartStall_cmd (s : State) (c : Comp) : (restartStall c s).cmd = s.cmd := rfl
@[simp] theorem restartStall_status (s : State) (c : Comp) : (restartStall c s).status = s.status := rfl
@[simp] theorem restartStall_asm_inbox (s : State) (c : Comp) : (restartStall c s).asm.inbox = s.asm.inbox := rfl
@[simp] theorem restartStall_asm_phase (s : State) (c : Comp) : (restartStall c s).asm.phase = s.asm.phase := rfl
@[simp] theorem restartStall_asm_comps (s : State) (c : Comp) : (restartStall c s).asm.comps = s.asm.comps := rfl
@[simp] theorem restartStall_asm_stall (s : State) (c : Comp) : (restartStall c s).asm.stall = s.asm.stall.set c ⟨some 0, false⟩ := rfl

@[simp] theorem clearAssembler_pending (s : State) : (clearAssembler s).pending = s.pending := rfl
@[simp] theorem clearAssembler_sp (s : State) : (clearAssembler s).sp = s.sp := rfl
@[simp] theorem clearAssembler_lp (s : State) : (clearAssembler s).lp = s.lp := rfl
@[simp] theorem clearAssembler_link (s : State) : (clearAssembler s).link = s.link := rfl
@[simp] theorem clearAssembler_bank (s : State) : (clearAssembler s).bank = s.bank := rfl
@[simp] theorem clearAssembler_array (s : State) : (clearAssembler s).array = s.array := rfl
@[simp] theorem clearAssembler_engine (s : State) : (clearAssembler s).engine = s.engine := rfl
@[simp] theorem clearAssembler_arrivals (s : State) : (clearAssembler s).arrivals = s.arrivals := rfl
@[simp] theorem clearAssembler_tables (s : State) : (clearAssembler s).tables = s.tables := rfl
@[simp] theorem clearAssembler_cmd (s : State) : (clearAssembler s).cmd = s.cmd := rfl
@[simp] theorem clearAssembler_status (s : State) : (clearAssembler s).status = s.status := rfl
@[simp] theorem clearAssembler_asm_inbox (s : State) : (clearAssembler s).asm.inbox = s.asm.inbox := rfl
@[simp] theorem clearAssembler_asm_phase (s : State) : (clearAssembler s).asm.phase = .unsynced := rfl
@[simp] theorem clearAssembler_asm_comps (s : State) : (clearAssembler s).asm.comps = .all .reset := rfl
@[simp] theorem clearAssembler_asm_stall (s : State) : (clearAssembler s).asm.stall = s.asm.stall := rfl

@[simp] theorem resetForMap_pending (s : State) : (resetForMap s).pending = s.pending := rfl
@[simp] theorem resetForMap_sp (s : State) : (resetForMap s).sp = s.sp := rfl
@[simp] theorem resetForMap_lp (s : State) : (resetForMap s).lp = s.lp := rfl
@[simp] theorem resetForMap_link (s : State) : (resetForMap s).link = s.link := rfl
@[simp] theorem resetForMap_bank (s : State) : (resetForMap s).bank = s.bank := rfl
@[simp] theorem resetForMap_array (s : State) : (resetForMap s).array = s.array := rfl
@[simp] theorem resetForMap_engine (s : State) : (resetForMap s).engine = s.engine := rfl
@[simp] theorem resetForMap_arrivals (s : State) : (resetForMap s).arrivals = s.arrivals := rfl
@[simp] theorem resetForMap_tables (s : State) : (resetForMap s).tables = s.tables := rfl
@[simp] theorem resetForMap_cmd (s : State) : (resetForMap s).cmd = s.cmd := rfl
@[simp] theorem resetForMap_status (s : State) : (resetForMap s).status = s.status := rfl
@[simp] theorem resetForMap_asm_inbox (s : State) : (resetForMap s).asm.inbox = s.asm.inbox := rfl
@[simp] theorem resetForMap_asm_phase (s : State) : (resetForMap s).asm.phase = .unsynced := rfl
@[simp] theorem resetForMap_asm_comps (s : State) : (resetForMap s).asm.comps = .all .reset := rfl
@[simp] theorem resetForMap_asm_stall (s : State) : (resetForMap s).asm.stall = .all ⟨some 0, false⟩ := rfl

/-! ### Notices (R31, R170) -/

@[simp] theorem sendNotices_pending (s : State) (k : NoticeKind) : (sendNotices k s).pending = s.pending := rfl
@[simp] theorem sendNotices_sp (s : State) (k : NoticeKind) : (sendNotices k s).sp = s.sp := rfl
@[simp] theorem sendNotices_lp (s : State) (k : NoticeKind) : (sendNotices k s).lp = s.lp := rfl
@[simp] theorem sendNotices_link (s : State) (k : NoticeKind) : (sendNotices k s).link = s.link := rfl
@[simp] theorem sendNotices_asm (s : State) (k : NoticeKind) : (sendNotices k s).asm = s.asm := rfl
@[simp] theorem sendNotices_arrivals (s : State) (k : NoticeKind) : (sendNotices k s).arrivals = s.arrivals := rfl
@[simp] theorem sendNotices_tables (s : State) (k : NoticeKind) : (sendNotices k s).tables = s.tables := rfl
@[simp] theorem sendNotices_cmd (s : State) (k : NoticeKind) : (sendNotices k s).cmd = s.cmd := rfl
@[simp] theorem sendNotices_status (s : State) (k : NoticeKind) : (sendNotices k s).status = s.status := rfl
@[simp] theorem sendNotices_bank_inbox (s : State) (k : NoticeKind) : (sendNotices k s).bank.inbox = s.bank.inbox := rfl
@[simp] theorem sendNotices_bank_notices (s : State) (k : NoticeKind) : (sendNotices k s).bank.notices = s.bank.notices ++ [⟨k, s.bank.inbox.length⟩] := rfl
@[simp] theorem sendNotices_bank_sections (s : State) (k : NoticeKind) : (sendNotices k s).bank.sections = s.bank.sections := rfl
@[simp] theorem sendNotices_bank_saturating (s : State) (k : NoticeKind) : (sendNotices k s).bank.saturating = s.bank.saturating := rfl
@[simp] theorem sendNotices_array_inbox (s : State) (k : NoticeKind) : (sendNotices k s).array.inbox = s.array.inbox := rfl
@[simp] theorem sendNotices_array_notices (s : State) (k : NoticeKind) : (sendNotices k s).array.notices = s.array.notices ++ [⟨k, s.bank.inbox.length + s.array.inbox.length⟩] := rfl
@[simp] theorem sendNotices_array_dets (s : State) (k : NoticeKind) : (sendNotices k s).array.dets = s.array.dets := rfl
@[simp] theorem sendNotices_array_rings (s : State) (k : NoticeKind) : (sendNotices k s).array.rings = s.array.rings := rfl
@[simp] theorem sendNotices_engine_inbox (s : State) (k : NoticeKind) : (sendNotices k s).engine.inbox = s.engine.inbox := rfl
@[simp] theorem sendNotices_engine_notices (s : State) (k : NoticeKind) : (sendNotices k s).engine.notices = s.engine.notices ++ [⟨k, s.bank.inbox.length + s.array.inbox.length + s.engine.inbox.length⟩] := rfl
@[simp] theorem sendNotices_engine_pool (s : State) (k : NoticeKind) : (sendNotices k s).engine.pool = s.engine.pool := rfl
@[simp] theorem sendNotices_engine_ptr (s : State) (k : NoticeKind) : (sendNotices k s).engine.ptr = s.engine.ptr := rfl
@[simp] theorem sendNotices_engine_counter (s : State) (k : NoticeKind) : (sendNotices k s).engine.counter = s.engine.counter := rfl

/-! ### Filters and detectors (R47, R55, R74) -/

@[simp] theorem clearFilters_pending (s : State) : (clearFilters s).pending = s.pending := rfl
@[simp] theorem clearFilters_sp (s : State) : (clearFilters s).sp = s.sp := rfl
@[simp] theorem clearFilters_lp (s : State) : (clearFilters s).lp = s.lp := rfl
@[simp] theorem clearFilters_link (s : State) : (clearFilters s).link = s.link := rfl
@[simp] theorem clearFilters_asm (s : State) : (clearFilters s).asm = s.asm := rfl
@[simp] theorem clearFilters_array (s : State) : (clearFilters s).array = s.array := rfl
@[simp] theorem clearFilters_engine (s : State) : (clearFilters s).engine = s.engine := rfl
@[simp] theorem clearFilters_arrivals (s : State) : (clearFilters s).arrivals = s.arrivals := rfl
@[simp] theorem clearFilters_tables (s : State) : (clearFilters s).tables = s.tables := rfl
@[simp] theorem clearFilters_cmd (s : State) : (clearFilters s).cmd = s.cmd := rfl
@[simp] theorem clearFilters_status (s : State) : (clearFilters s).status = s.status := rfl
@[simp] theorem clearFilters_bank_inbox (s : State) : (clearFilters s).bank.inbox = s.bank.inbox := rfl
@[simp] theorem clearFilters_bank_notices (s : State) : (clearFilters s).bank.notices = s.bank.notices := rfl
@[simp] theorem clearFilters_bank_sections (s : State) : (clearFilters s).bank.sections = PerBand.of (fun _ => PerComp.cleared) := rfl
@[simp] theorem clearFilters_bank_saturating (s : State) : (clearFilters s).bank.saturating = false := rfl

@[simp] theorem restartDetectors_pending (s : State) : (restartDetectors s).pending = s.pending := rfl
@[simp] theorem restartDetectors_sp (s : State) : (restartDetectors s).sp = s.sp := rfl
@[simp] theorem restartDetectors_lp (s : State) : (restartDetectors s).lp = s.lp := rfl
@[simp] theorem restartDetectors_link (s : State) : (restartDetectors s).link = s.link := rfl
@[simp] theorem restartDetectors_asm (s : State) : (restartDetectors s).asm = s.asm := rfl
@[simp] theorem restartDetectors_bank (s : State) : (restartDetectors s).bank = s.bank := rfl
@[simp] theorem restartDetectors_engine (s : State) : (restartDetectors s).engine = s.engine := rfl
@[simp] theorem restartDetectors_arrivals (s : State) : (restartDetectors s).arrivals = s.arrivals := rfl
@[simp] theorem restartDetectors_tables (s : State) : (restartDetectors s).tables = s.tables := rfl
@[simp] theorem restartDetectors_cmd (s : State) : (restartDetectors s).cmd = s.cmd := rfl
@[simp] theorem restartDetectors_status (s : State) : (restartDetectors s).status = s.status := rfl
@[simp] theorem restartDetectors_array_inbox (s : State) : (restartDetectors s).array.inbox = s.array.inbox := rfl
@[simp] theorem restartDetectors_array_notices (s : State) : (restartDetectors s).array.notices = s.array.notices := rfl
@[simp] theorem restartDetectors_array_dets (s : State) : (restartDetectors s).array.dets = PerDet.of (fun d => if detRuns s.tables.active.band d then Detector.warm else Detector.off) := rfl
@[simp] theorem restartDetectors_array_rings (s : State) : (restartDetectors s).array.rings = ⟨[], [], []⟩ := rfl

@[simp] theorem adjustDetectors_pending (s : State) : (adjustDetectors s).pending = s.pending := rfl
@[simp] theorem adjustDetectors_sp (s : State) : (adjustDetectors s).sp = s.sp := rfl
@[simp] theorem adjustDetectors_lp (s : State) : (adjustDetectors s).lp = s.lp := rfl
@[simp] theorem adjustDetectors_link (s : State) : (adjustDetectors s).link = s.link := rfl
@[simp] theorem adjustDetectors_asm (s : State) : (adjustDetectors s).asm = s.asm := rfl
@[simp] theorem adjustDetectors_bank (s : State) : (adjustDetectors s).bank = s.bank := rfl
@[simp] theorem adjustDetectors_engine (s : State) : (adjustDetectors s).engine = s.engine := rfl
@[simp] theorem adjustDetectors_arrivals (s : State) : (adjustDetectors s).arrivals = s.arrivals := rfl
@[simp] theorem adjustDetectors_tables (s : State) : (adjustDetectors s).tables = s.tables := rfl
@[simp] theorem adjustDetectors_cmd (s : State) : (adjustDetectors s).cmd = s.cmd := rfl
@[simp] theorem adjustDetectors_status (s : State) : (adjustDetectors s).status = s.status := rfl
@[simp] theorem adjustDetectors_array_inbox (s : State) : (adjustDetectors s).array.inbox = s.array.inbox := rfl
@[simp] theorem adjustDetectors_array_notices (s : State) : (adjustDetectors s).array.notices = s.array.notices := rfl
@[simp] theorem adjustDetectors_array_dets (s : State) : (adjustDetectors s).array.dets = PerDet.of (fun d => lowerOnCount (s.profile d).maxOn (s.array.dets.get d)) := rfl
@[simp] theorem adjustDetectors_array_rings (s : State) : (adjustDetectors s).array.rings = s.array.rings := rfl

/-! ### The context pool (R96, R102) -/

@[simp] theorem setCtx_pending (s : State) (i : Fin 8) (c : Option Context) : (s.setCtx i c).pending = s.pending := rfl
@[simp] theorem setCtx_sp (s : State) (i : Fin 8) (c : Option Context) : (s.setCtx i c).sp = s.sp := rfl
@[simp] theorem setCtx_lp (s : State) (i : Fin 8) (c : Option Context) : (s.setCtx i c).lp = s.lp := rfl
@[simp] theorem setCtx_link (s : State) (i : Fin 8) (c : Option Context) : (s.setCtx i c).link = s.link := rfl
@[simp] theorem setCtx_asm (s : State) (i : Fin 8) (c : Option Context) : (s.setCtx i c).asm = s.asm := rfl
@[simp] theorem setCtx_bank (s : State) (i : Fin 8) (c : Option Context) : (s.setCtx i c).bank = s.bank := rfl
@[simp] theorem setCtx_array (s : State) (i : Fin 8) (c : Option Context) : (s.setCtx i c).array = s.array := rfl
@[simp] theorem setCtx_arrivals (s : State) (i : Fin 8) (c : Option Context) : (s.setCtx i c).arrivals = s.arrivals := rfl
@[simp] theorem setCtx_tables (s : State) (i : Fin 8) (c : Option Context) : (s.setCtx i c).tables = s.tables := rfl
@[simp] theorem setCtx_cmd (s : State) (i : Fin 8) (c : Option Context) : (s.setCtx i c).cmd = s.cmd := rfl
@[simp] theorem setCtx_status (s : State) (i : Fin 8) (c : Option Context) : (s.setCtx i c).status = s.status := rfl
@[simp] theorem setCtx_engine_inbox (s : State) (i : Fin 8) (c : Option Context) : (s.setCtx i c).engine.inbox = s.engine.inbox := rfl
@[simp] theorem setCtx_engine_notices (s : State) (i : Fin 8) (c : Option Context) : (s.setCtx i c).engine.notices = s.engine.notices := rfl
@[simp] theorem setCtx_engine_pool (s : State) (i : Fin 8) (c : Option Context) : (s.setCtx i c).engine.pool = s.engine.pool.set i c := rfl
@[simp] theorem setCtx_engine_ptr (s : State) (i : Fin 8) (c : Option Context) : (s.setCtx i c).engine.ptr = s.engine.ptr := rfl
@[simp] theorem setCtx_engine_counter (s : State) (i : Fin 8) (c : Option Context) : (s.setCtx i c).engine.counter = s.engine.counter := rfl

@[simp] theorem setCounter_pending (s : State) (n : Nat) : (s.setCounter n).pending = s.pending := rfl
@[simp] theorem setCounter_sp (s : State) (n : Nat) : (s.setCounter n).sp = s.sp := rfl
@[simp] theorem setCounter_lp (s : State) (n : Nat) : (s.setCounter n).lp = s.lp := rfl
@[simp] theorem setCounter_link (s : State) (n : Nat) : (s.setCounter n).link = s.link := rfl
@[simp] theorem setCounter_asm (s : State) (n : Nat) : (s.setCounter n).asm = s.asm := rfl
@[simp] theorem setCounter_bank (s : State) (n : Nat) : (s.setCounter n).bank = s.bank := rfl
@[simp] theorem setCounter_array (s : State) (n : Nat) : (s.setCounter n).array = s.array := rfl
@[simp] theorem setCounter_arrivals (s : State) (n : Nat) : (s.setCounter n).arrivals = s.arrivals := rfl
@[simp] theorem setCounter_tables (s : State) (n : Nat) : (s.setCounter n).tables = s.tables := rfl
@[simp] theorem setCounter_cmd (s : State) (n : Nat) : (s.setCounter n).cmd = s.cmd := rfl
@[simp] theorem setCounter_status (s : State) (n : Nat) : (s.setCounter n).status = s.status := rfl
@[simp] theorem setCounter_engine_inbox (s : State) (n : Nat) : (s.setCounter n).engine.inbox = s.engine.inbox := rfl
@[simp] theorem setCounter_engine_notices (s : State) (n : Nat) : (s.setCounter n).engine.notices = s.engine.notices := rfl
@[simp] theorem setCounter_engine_pool (s : State) (n : Nat) : (s.setCounter n).engine.pool = s.engine.pool := rfl
@[simp] theorem setCounter_engine_ptr (s : State) (n : Nat) : (s.setCounter n).engine.ptr = s.engine.ptr := rfl
@[simp] theorem setCounter_engine_counter (s : State) (n : Nat) : (s.setCounter n).engine.counter = n := rfl

/-! ### The Arrival Queue (R133) -/

@[simp] theorem enqueue_pending (s : State) (r : Record) : (s.enqueue r).pending = s.pending := rfl
@[simp] theorem enqueue_sp (s : State) (r : Record) : (s.enqueue r).sp = s.sp := rfl
@[simp] theorem enqueue_lp (s : State) (r : Record) : (s.enqueue r).lp = s.lp := rfl
@[simp] theorem enqueue_link (s : State) (r : Record) : (s.enqueue r).link = s.link := rfl
@[simp] theorem enqueue_asm (s : State) (r : Record) : (s.enqueue r).asm = s.asm := rfl
@[simp] theorem enqueue_bank (s : State) (r : Record) : (s.enqueue r).bank = s.bank := rfl
@[simp] theorem enqueue_array (s : State) (r : Record) : (s.enqueue r).array = s.array := rfl
@[simp] theorem enqueue_engine (s : State) (r : Record) : (s.enqueue r).engine = s.engine := rfl
@[simp] theorem enqueue_tables (s : State) (r : Record) : (s.enqueue r).tables = s.tables := rfl
@[simp] theorem enqueue_cmd (s : State) (r : Record) : (s.enqueue r).cmd = s.cmd := rfl
@[simp] theorem enqueue_status (s : State) (r : Record) : (s.enqueue r).status = s.status := rfl
@[simp] theorem enqueue_arrivals_records (s : State) (r : Record) : (s.enqueue r).arrivals.records = s.arrivals.records ++ [r] := rfl
@[simp] theorem enqueue_arrivals_mode (s : State) (r : Record) : (s.enqueue r).arrivals.mode = s.arrivals.mode := rfl

/-! ### The Table Bank (R148, R149, R156) -/

/-- Entering FORCE_DUE sets the commit state alone. -/
@[simp] theorem enterForceDue_eq (s : State) : enterForceDue s = s.setCommit (.forceDue s.engine.notices.length) := rfl

/-- A notice taken leaves no commit pending, or the same one. -/
@[simp] theorem noticeTaken_eq_none (c : CommitState) : c.noticeTaken = .none ↔ c = .none := by cases c <;> simp [CommitState.noticeTaken]

/-- A notice taken leaves the remaining wait as it is. -/
@[simp] theorem remaining_noticeTaken (c : CommitState) : c.noticeTaken.remaining = c.remaining := by cases c <;> rfl

@[simp] theorem setCommit_pending (s : State) (c : CommitState) : (s.setCommit c).pending = s.pending := rfl
@[simp] theorem setCommit_sp (s : State) (c : CommitState) : (s.setCommit c).sp = s.sp := rfl
@[simp] theorem setCommit_lp (s : State) (c : CommitState) : (s.setCommit c).lp = s.lp := rfl
@[simp] theorem setCommit_link (s : State) (c : CommitState) : (s.setCommit c).link = s.link := rfl
@[simp] theorem setCommit_asm (s : State) (c : CommitState) : (s.setCommit c).asm = s.asm := rfl
@[simp] theorem setCommit_bank (s : State) (c : CommitState) : (s.setCommit c).bank = s.bank := rfl
@[simp] theorem setCommit_array (s : State) (c : CommitState) : (s.setCommit c).array = s.array := rfl
@[simp] theorem setCommit_engine (s : State) (c : CommitState) : (s.setCommit c).engine = s.engine := rfl
@[simp] theorem setCommit_arrivals (s : State) (c : CommitState) : (s.setCommit c).arrivals = s.arrivals := rfl
@[simp] theorem setCommit_cmd (s : State) (c : CommitState) : (s.setCommit c).cmd = s.cmd := rfl
@[simp] theorem setCommit_status (s : State) (c : CommitState) : (s.setCommit c).status = s.status := rfl
@[simp] theorem setCommit_tables_shadow (s : State) (c : CommitState) : (s.setCommit c).tables.shadow = s.tables.shadow := rfl
@[simp] theorem setCommit_tables_active (s : State) (c : CommitState) : (s.setCommit c).tables.active = s.tables.active := rfl
@[simp] theorem setCommit_tables_written (s : State) (c : CommitState) : (s.setCommit c).tables.written = s.tables.written := rfl
@[simp] theorem setCommit_tables_valid (s : State) (c : CommitState) : (s.setCommit c).tables.valid = s.tables.valid := rfl
@[simp] theorem setCommit_tables_commit (s : State) (c : CommitState) : (s.setCommit c).tables.commit = c := rfl
@[simp] theorem setCommit_tables_guard (s : State) (c : CommitState) : (s.setCommit c).tables.guard = s.tables.guard := rfl
@[simp] theorem setCommit_tables_picker (s : State) (c : CommitState) : (s.setCommit c).tables.picker = s.tables.picker := rfl

@[simp] theorem setGuard_pending (s : State) (g : Option Byte) : (s.setGuard g).pending = s.pending := rfl
@[simp] theorem setGuard_sp (s : State) (g : Option Byte) : (s.setGuard g).sp = s.sp := rfl
@[simp] theorem setGuard_lp (s : State) (g : Option Byte) : (s.setGuard g).lp = s.lp := rfl
@[simp] theorem setGuard_link (s : State) (g : Option Byte) : (s.setGuard g).link = s.link := rfl
@[simp] theorem setGuard_asm (s : State) (g : Option Byte) : (s.setGuard g).asm = s.asm := rfl
@[simp] theorem setGuard_bank (s : State) (g : Option Byte) : (s.setGuard g).bank = s.bank := rfl
@[simp] theorem setGuard_array (s : State) (g : Option Byte) : (s.setGuard g).array = s.array := rfl
@[simp] theorem setGuard_engine (s : State) (g : Option Byte) : (s.setGuard g).engine = s.engine := rfl
@[simp] theorem setGuard_arrivals (s : State) (g : Option Byte) : (s.setGuard g).arrivals = s.arrivals := rfl
@[simp] theorem setGuard_cmd (s : State) (g : Option Byte) : (s.setGuard g).cmd = s.cmd := rfl
@[simp] theorem setGuard_status (s : State) (g : Option Byte) : (s.setGuard g).status = s.status := rfl
@[simp] theorem setGuard_tables_shadow (s : State) (g : Option Byte) : (s.setGuard g).tables.shadow = s.tables.shadow := rfl
@[simp] theorem setGuard_tables_active (s : State) (g : Option Byte) : (s.setGuard g).tables.active = s.tables.active := rfl
@[simp] theorem setGuard_tables_written (s : State) (g : Option Byte) : (s.setGuard g).tables.written = s.tables.written := rfl
@[simp] theorem setGuard_tables_valid (s : State) (g : Option Byte) : (s.setGuard g).tables.valid = s.tables.valid := rfl
@[simp] theorem setGuard_tables_commit (s : State) (g : Option Byte) : (s.setGuard g).tables.commit = s.tables.commit := rfl
@[simp] theorem setGuard_tables_guard (s : State) (g : Option Byte) : (s.setGuard g).tables.guard = g := rfl
@[simp] theorem setGuard_tables_picker (s : State) (g : Option Byte) : (s.setGuard g).tables.picker = s.tables.picker := rfl

@[simp] theorem swapTables_pending (s : State) : (swapTables s).pending = s.pending := rfl
@[simp] theorem swapTables_sp (s : State) : (swapTables s).sp = s.sp := rfl
@[simp] theorem swapTables_lp (s : State) : (swapTables s).lp = s.lp := rfl
@[simp] theorem swapTables_link (s : State) : (swapTables s).link = s.link := rfl
@[simp] theorem swapTables_asm (s : State) : (swapTables s).asm = s.asm := rfl
@[simp] theorem swapTables_bank (s : State) : (swapTables s).bank = s.bank := rfl
@[simp] theorem swapTables_array (s : State) : (swapTables s).array = s.array := rfl
@[simp] theorem swapTables_engine (s : State) : (swapTables s).engine = s.engine := rfl
@[simp] theorem swapTables_arrivals (s : State) : (swapTables s).arrivals = s.arrivals := rfl
@[simp] theorem swapTables_cmd (s : State) : (swapTables s).cmd = s.cmd := rfl
@[simp] theorem swapTables_tables_shadow (s : State) : (swapTables s).tables.shadow = s.tables.shadow := rfl
@[simp] theorem swapTables_tables_active (s : State) : (swapTables s).tables.active = s.tables.shadow := rfl
@[simp] theorem swapTables_tables_written (s : State) : (swapTables s).tables.written = s.tables.written := rfl
@[simp] theorem swapTables_tables_valid (s : State) : (swapTables s).tables.valid = ⟨true, true, true, true⟩ := rfl
@[simp] theorem swapTables_tables_commit (s : State) : (swapTables s).tables.commit = .none := rfl
@[simp] theorem swapTables_tables_guard (s : State) : (swapTables s).tables.guard = s.tables.guard := rfl
@[simp] theorem swapTables_tables_picker (s : State) : (swapTables s).tables.picker = .running := rfl
@[simp] theorem swapTables_status_flags (s : State) : (swapTables s).status.flags = latchFlag s.status.flags .swapped := rfl
@[simp] theorem swapTables_status_mask (s : State) : (swapTables s).status.mask = s.status.mask := rfl
@[simp] theorem swapTables_status_counters (s : State) : (swapTables s).status.counters = s.status.counters := rfl
@[simp] theorem swapTables_status_interval (s : State) : (swapTables s).status.interval = s.status.interval := rfl
@[simp] theorem swapTables_status_timer (s : State) : (swapTables s).status.timer = s.status.timer := rfl
@[simp] theorem swapTables_status_slot (s : State) : (swapTables s).status.slot = s.status.slot := rfl

/-! ### Replies and the line (R15, R161) -/

@[simp] theorem pushReply_pending (s : State) (r : Reply) : (pushReply r s).pending = s.pending := rfl
@[simp] theorem pushReply_sp (s : State) (r : Reply) : (pushReply r s).sp = s.sp := rfl
@[simp] theorem pushReply_lp (s : State) (r : Reply) : (pushReply r s).lp = s.lp := rfl
@[simp] theorem pushReply_link (s : State) (r : Reply) : (pushReply r s).link = s.link := rfl
@[simp] theorem pushReply_asm (s : State) (r : Reply) : (pushReply r s).asm = s.asm := rfl
@[simp] theorem pushReply_bank (s : State) (r : Reply) : (pushReply r s).bank = s.bank := rfl
@[simp] theorem pushReply_array (s : State) (r : Reply) : (pushReply r s).array = s.array := rfl
@[simp] theorem pushReply_engine (s : State) (r : Reply) : (pushReply r s).engine = s.engine := rfl
@[simp] theorem pushReply_arrivals (s : State) (r : Reply) : (pushReply r s).arrivals = s.arrivals := rfl
@[simp] theorem pushReply_tables (s : State) (r : Reply) : (pushReply r s).tables = s.tables := rfl
@[simp] theorem pushReply_status (s : State) (r : Reply) : (pushReply r s).status = s.status := rfl
@[simp] theorem pushReply_cmd_inbox (s : State) (r : Reply) : (pushReply r s).cmd.inbox = s.cmd.inbox := rfl
@[simp] theorem pushReply_cmd_replies (s : State) (r : Reply) : (pushReply r s).cmd.replies = s.cmd.replies ++ [r] := rfl
@[simp] theorem pushReply_cmd_resetPending (s : State) (r : Reply) : (pushReply r s).cmd.resetPending = s.cmd.resetPending := rfl

@[simp] theorem startLp_pending (s : State) (bs : List Byte) (x : Source) (b : Bool) : (s.startLp bs x b).pending = s.pending := rfl
@[simp] theorem startLp_sp (s : State) (bs : List Byte) (x : Source) (b : Bool) : (s.startLp bs x b).sp = s.sp := rfl
@[simp] theorem startLp_lp (s : State) (bs : List Byte) (x : Source) (b : Bool) : (s.startLp bs x b).lp = s.lp := rfl
@[simp] theorem startLp_asm (s : State) (bs : List Byte) (x : Source) (b : Bool) : (s.startLp bs x b).asm = s.asm := rfl
@[simp] theorem startLp_bank (s : State) (bs : List Byte) (x : Source) (b : Bool) : (s.startLp bs x b).bank = s.bank := rfl
@[simp] theorem startLp_array (s : State) (bs : List Byte) (x : Source) (b : Bool) : (s.startLp bs x b).array = s.array := rfl
@[simp] theorem startLp_engine (s : State) (bs : List Byte) (x : Source) (b : Bool) : (s.startLp bs x b).engine = s.engine := rfl
@[simp] theorem startLp_arrivals (s : State) (bs : List Byte) (x : Source) (b : Bool) : (s.startLp bs x b).arrivals = s.arrivals := rfl
@[simp] theorem startLp_tables (s : State) (bs : List Byte) (x : Source) (b : Bool) : (s.startLp bs x b).tables = s.tables := rfl
@[simp] theorem startLp_cmd (s : State) (bs : List Byte) (x : Source) (b : Bool) : (s.startLp bs x b).cmd = s.cmd := rfl
@[simp] theorem startLp_status (s : State) (bs : List Byte) (x : Source) (b : Bool) : (s.startLp bs x b).status = s.status := rfl
@[simp] theorem startLp_link_rate (s : State) (bs : List Byte) (x : Source) (b : Bool) : (s.startLp bs x b).link.rate = s.link.rate := rfl
@[simp] theorem startLp_link_forwardQ (s : State) (bs : List Byte) (x : Source) (b : Bool) : (s.startLp bs x b).link.forwardQ = s.link.forwardQ := rfl
@[simp] theorem startLp_link_upstreamQ (s : State) (bs : List Byte) (x : Source) (b : Bool) : (s.startLp bs x b).link.upstreamQ = s.link.upstreamQ := rfl
@[simp] theorem startLp_link_lpLine (s : State) (bs : List Byte) (x : Source) (b : Bool) : (s.startLp bs x b).link.lpLine = some ⟨bs, x, b, 0⟩ := rfl
@[simp] theorem startLp_link_spLine (s : State) (bs : List Byte) (x : Source) (b : Bool) : (s.startLp bs x b).link.spLine = s.link.spLine := rfl

/-! ### Latching on a condition -/

@[simp] theorem latchIf_true (s : State) (f : Flag) : s.latchIf true f = s.latch f := rfl
@[simp] theorem latchIf_false (s : State) (f : Flag) : s.latchIf false f = s := rfl

/-- Latching on a condition leaves the state as it is but for the flags. -/
theorem latchIf_eq (s : State) (b : Bool) (f : Flag) :
    s.latchIf b f = { s with status := { s.status with
      flags := if b then latchFlag s.status.flags f else s.status.flags } } := by
  cases b <;> rfl

/-! ### One framer by its port -/

@[simp] theorem framer_setFramer (s : State) (p : Port) (f : Framer) : (s.setFramer p f).framer p = f := by
  cases p <;> rfl
@[simp] theorem framer_latch (s : State) (p : Port) (f : Flag) : (s.latch f).framer p = s.framer p := by
  cases p <;> rfl
@[simp] theorem framer_bump (s : State) (p : Port) (k : Counter) (n : Nat) :
    (s.bump k n).framer p = s.framer p := by
  cases p <;> rfl
@[simp] theorem setFramer_framer (s : State) (p : Port) : s.setFramer p (s.framer p) = s := by
  cases p <;> rfl
@[simp] theorem setFramer_setFramer (s : State) (p : Port) (f g : Framer) :
    (s.setFramer p f).setFramer p g = s.setFramer p g := by
  cases p <;> rfl

/-! ### Slots of the pool -/

@[simp] theorem ctx_setCtx_self (s : State) (i : Fin 8) (c : Option Context) : (s.setCtx i c).ctx i = c :=
  Vector.getElem_set_self i.isLt

theorem ctx_setCtx_ne (s : State) {i j : Fin 8} (c : Option Context) (h : j ≠ i) :
    (s.setCtx i c).ctx j = s.ctx j :=
  Vector.getElem_set_ne i.isLt j.isLt (fun e => h (Fin.ext e.symm))

@[simp] theorem ctx_latch (s : State) (f : Flag) (i : Fin 8) : (s.latch f).ctx i = s.ctx i := rfl
@[simp] theorem ctx_bump (s : State) (k : Counter) (n : Nat) (i : Fin 8) : (s.bump k n).ctx i = s.ctx i := rfl
@[simp] theorem ctx_setCounter (s : State) (n : Nat) (i : Fin 8) : (s.setCounter n).ctx i = s.ctx i := rfl
@[simp] theorem ctx_enqueue (s : State) (r : Record) (i : Fin 8) : (s.enqueue r).ctx i = s.ctx i := rfl

/-! ### The active settings -/

@[simp] theorem rules_latch (s : State) (f : Flag) : (s.latch f).rules = s.rules := rfl
@[simp] theorem rules_bump (s : State) (k : Counter) (n : Nat) : (s.bump k n).rules = s.rules := rfl
@[simp] theorem rules_setCtx (s : State) (i : Fin 8) (c : Option Context) : (s.setCtx i c).rules = s.rules := rfl
@[simp] theorem rules_setCounter (s : State) (n : Nat) : (s.setCounter n).rules = s.rules := rfl
@[simp] theorem rules_enqueue (s : State) (r : Record) : (s.enqueue r).rules = s.rules := rfl
@[simp] theorem chanMap_latch (s : State) (f : Flag) : (s.latch f).chanMap = s.chanMap := rfl
@[simp] theorem chanMap_bump (s : State) (k : Counter) (n : Nat) : (s.bump k n).chanMap = s.chanMap := rfl
@[simp] theorem period_latch (s : State) (f : Flag) : (s.latch f).period = s.period := rfl
@[simp] theorem period_bump (s : State) (k : Counter) (n : Nat) : (s.bump k n).period = s.period := rfl

/-! ### Entries of the small containers -/

@[simp] theorem PerComp.get_all {α : Type} (x : α) (c : Comp) : (PerComp.all x).get c = x := by cases c <;> rfl
@[simp] theorem PerComp.get_map {α β : Type} (f : α → β) (p : PerComp α) (c : Comp) :
    (p.map f).get c = f (p.get c) := by
  cases c <;> rfl
theorem PerComp.get_set {α : Type} (p : PerComp α) (c d : Comp) (x : α) :
    (p.set c x).get d = if d = c then x else p.get d := by
  cases c <;> cases d <;> rfl
@[simp] theorem PerBand.get_of {α : Type} (f : Band → α) (b : Band) : (PerBand.of f).get b = f b := by
  cases b <;> rfl
theorem PerBand.get_set {α : Type} (p : PerBand α) (b d : Band) (x : α) :
    (p.set b x).get d = if d = b then x else p.get d := by
  cases b <;> cases d <;> rfl
@[simp] theorem PerDet.get_of {α : Type} (f : Det → α) (d : Det) : (PerDet.of f).get d = f d := by
  cases d <;> rfl
theorem PerTable.get_set {α : Type} (p : PerTable α) (t u : Table) (x : α) :
    (p.set t x).get u = if u = t then x else p.get u := by
  cases t <;> cases u <;> rfl

/-- Two per-component values with the same entries are equal. -/
theorem PerComp.ext_get {α : Type} {p q : PerComp α} (h : ∀ c, p.get c = q.get c) : p = q := by
  have hz := h .z
  have hn := h .n
  have he := h .e
  cases p; cases q
  simp only [PerComp.get] at hz hn he
  subst hz hn he
  rfl

/-- Two per-band values with the same entries are equal. -/
theorem PerBand.ext_get {α : Type} {p q : PerBand α} (h : ∀ b, p.get b = q.get b) : p = q := by
  have h0 := h .b0
  have h1 := h .b1
  have h2 := h .b2
  cases p; cases q
  simp only [PerBand.get] at h0 h1 h2
  subst h0 h1 h2
  rfl

/-- Two per-detector values with the same entries are equal. -/
theorem PerDet.ext_get {α : Type} {p q : PerDet α} (h : ∀ d, p.get d = q.get d) : p = q := by
  have h0 := h .v0
  have h1 := h .h0
  have h2 := h .v1
  have h3 := h .h1
  have h4 := h .v2
  have h5 := h .h2
  cases p; cases q
  simp only [PerDet.get] at h0 h1 h2 h3 h4 h5
  subst h0 h1 h2 h3 h4 h5
  rfl

end Sys2Proof.Machine
end

