-- ==== Sys2Proof/Laws/Ops.lean ====
section
/-! SUPPORT. What each shared operation can do, said once: counters and flags, offers to queues, the admission of a
record, notices, replies, a command row taken, and a report. -/

namespace Sys2Proof.Machine

open Sys2Proof.Safety

/-! ### Flags and counters (R174, R176) -/

/-- Latching sets the flag named and leaves every other as it was. -/
theorem flagSet_latchFlag (flags : BitVec 20) (f g : Flag) :
    flagSet (latchFlag flags f) g = (flagSet flags g || decide (f = g)) := by
  simp only [flagSet, latchFlag, BitVec.getLsbD_or]
  cases f <;> cases g <;> rfl

@[simp] theorem satAdd_zero_of_le {v : Nat} (h : v ≤ max32) : satAdd v 0 = v := by
  simp [satAdd, Nat.min_eq_left h]

theorem satAdd_le (v n : Nat) : satAdd v n ≤ max32 := Nat.min_le_right _ _

/-- A bump advances its counter and leaves every other as it was. -/
theorem get_bump (c : Counters) (k j : Counter) (n : Nat) :
    (c.bump k n).get j = if j = k then satAdd (c.get k) n else c.get j := by
  cases k <;> cases j <;> rfl

/-- No advance leaves bounded counters as they are. -/
theorem bump_zero (s : State) (k : Counter) (h : CountersBounded s) : s.bump k 0 = s := by
  obtain ⟨h1, h2, h3, h4, h5, h6, h7, h8, h9, h10, h11, h12⟩ := h
  cases k <;> simp [State.bump, Counters.bump, *]

/-- A bump keeps the counters bounded. -/
theorem countersBounded_bump (s : State) (k : Counter) (n : Nat) (h : CountersBounded s) :
    CountersBounded (s.bump k n) := by
  obtain ⟨h1, h2, h3, h4, h5, h6, h7, h8, h9, h10, h11, h12⟩ := h
  cases k <;> exact ⟨by first | assumption | exact satAdd_le _ _, by first | assumption | exact satAdd_le _ _,
    by first | assumption | exact satAdd_le _ _, by first | assumption | exact satAdd_le _ _,
    by first | assumption | exact satAdd_le _ _, by first | assumption | exact satAdd_le _ _,
    by first | assumption | exact satAdd_le _ _, by first | assumption | exact satAdd_le _ _,
    by first | assumption | exact satAdd_le _ _, by first | assumption | exact satAdd_le _ _,
    by first | assumption | exact satAdd_le _ _, by first | assumption | exact satAdd_le _ _⟩

/-! ### Offers (R13, R14) -/

/-- A frame offered to the Forward Queue joins its tail below 8 frames; at 8 it is dropped, counted and flagged. -/
theorem offerForward_cases (frame : List Byte) (s : State) :
    (s.link.forwardQ.length < 8 ∧
      offerForward frame s = { s with link := { s.link with forwardQ := s.link.forwardQ ++ [frame] } }) ∨
    (8 ≤ s.link.forwardQ.length ∧ offerForward frame s = (s.bump .framesDropped 1).latch .egressOverrun) := by
  by_cases h : s.link.forwardQ.length < 8
  · exact .inl ⟨h, by simp [offerForward, Config.forwardDepth, h]⟩
  · exact .inr ⟨by omega, by simp [offerForward, Config.forwardDepth, h]⟩

/-- A frame offered to the Upstream Queue joins its tail below 4 frames; at 4 it is dropped, counted and flagged. -/
theorem offerUpstream_cases (frame : List Byte) (s : State) :
    (s.link.upstreamQ.length < 4 ∧
      offerUpstream frame s = { s with link := { s.link with upstreamQ := s.link.upstreamQ ++ [frame] } }) ∨
    (4 ≤ s.link.upstreamQ.length ∧ offerUpstream frame s = (s.bump .framesDropped 1).latch .upstreamOverrun) := by
  by_cases h : s.link.upstreamQ.length < 4
  · exact .inl ⟨h, by simp [offerUpstream, Config.upstreamDepth, h]⟩
  · exact .inr ⟨by omega, by simp [offerUpstream, Config.upstreamDepth, h]⟩

/-! ### The admission of a record (R133) -/

/-- Admission adds the record or its short form at the tail, or discards it: above 31 with QUEUE_FULL, from the watermark
on when it is SINGLE. -/
theorem admitRecord_cases (r : Record) (s : State) :
    (s.arrivals.records.length < 32 ∧ ∃ r', (r' = r ∨ r' = r.shorten) ∧ admitRecord r s = s.enqueue r') ∨
    (s.arrivals.records.length < 32 ∧ s.rules.watermark ≤ s.arrivals.records.length ∧ r.isSingle = true ∧
      admitRecord r s = s.bump .recordsDropped 1) ∨
    (32 ≤ s.arrivals.records.length ∧ admitRecord r s = (s.bump .recordsDropped 1).latch .queueFull) := by
  by_cases h1 : 32 ≤ s.arrivals.records.length
  · exact .inr (.inr ⟨h1, by simp [admitRecord, Config.arrivalDepth, h1]⟩)
  · by_cases h2 : s.arrivals.records.length < s.rules.watermark
    · exact .inl ⟨by omega, r, .inl rfl, by simp [admitRecord, Config.arrivalDepth, h1, h2]⟩
    · by_cases h3 : r.isSingle = true
      · exact .inr (.inl ⟨by omega, by omega, h3, by simp [admitRecord, Config.arrivalDepth, h1, h2, h3]⟩)
      · exact .inl ⟨by omega, r.shorten, .inr rfl, by simp [admitRecord, Config.arrivalDepth, h1, h2, h3]⟩

/-- Admission never takes the queue past 32 records. -/
theorem admitRecord_length (r : Record) (s : State) (h : s.arrivals.records.length ≤ 32) :
    (admitRecord r s).arrivals.records.length ≤ 32 := by
  obtain ⟨h1, r', -, e⟩ | ⟨-, -, -, e⟩ | ⟨-, e⟩ := admitRecord_cases r s <;> rw [e]
  · simpa using h1
  · exact h
  · exact h

/-! ### Notices (R31, R170) -/

/-- A notice is taken when it is the oldest, of the kind asked for, and no triad is before it. -/
theorem takeNotice_eq_some_iff (k : NoticeKind) (ns rest : List Notice) :
    takeNotice k ns = some rest ↔ ns = ⟨k, 0⟩ :: rest := by
  constructor
  · intro h
    cases ns with
    | nil => simp [takeNotice, dueNotice] at h
    | cons n ns =>
      obtain ⟨kind, ahead⟩ := n
      by_cases ha : ahead = 0
      · by_cases hk : kind = k
        · subst ha hk
          simp [takeNotice, dueNotice] at h
          rw [h]
        · simp [takeNotice, dueNotice, ha, hk] at h
      · simp [takeNotice, dueNotice, ha] at h
  · rintro rfl
    simp [takeNotice, dueNotice]

/-- No notice is due exactly when the oldest, if there is one, has triads before it. -/
theorem dueNotice_eq_none_iff (ns : List Notice) :
    dueNotice ns = none ↔ ∀ n rest, ns = n :: rest → n.ahead ≠ 0 := by
  cases ns with
  | nil => simp [dueNotice]
  | cons n ns => simp [dueNotice]

/-! ### A command row taken (R159 to R161) -/

/-- The frame whose turn it is leaves the inbox. -/
theorem takeFrame_ready (p : List Byte) (s : State) (h : s.cmd.inbox = [] ∨ s.cmd.inbox.head? = some p) :
    takeFrame p s = some { s with cmd := { s.cmd with inbox := s.cmd.inbox.tail } } := by
  rcases s with ⟨a, b, c, d, e, f, g, h1, h2, h3, ⟨i, j, k⟩, l⟩
  cases i with
  | nil => rfl
  | cons q r =>
    simp only [List.head?_cons, Option.some.injEq, reduceCtorEq, false_or] at h
    subst h
    simp [takeFrame]

/-- A frame behind another is not taken. -/
theorem takeFrame_none (p : List Byte) (s : State) (h : ¬ (s.cmd.inbox = [] ∨ s.cmd.inbox.head? = some p)) :
    takeFrame p s = none := by
  rcases s with ⟨a, b, c, d, e, f, g, h1, h2, h3, ⟨i, j, k⟩, l⟩
  cases i with
  | nil => simp at h
  | cons q r =>
    simp only [List.head?_cons, Option.some.injEq, reduceCtorEq, false_or] at h
    simp [takeFrame, h]

/-- A command that is taken and judged now is run on the state without its frame, and its reply joins the queue. -/
theorem runCommand_ready (code tag : Byte) (ps : List Byte) (run : State → Answer) (s : State)
    (h1 : s.cmd.resetPending = false) (h2 : s.cmd.replies.length < 4)
    (h : s.cmd.inbox = [] ∨ s.cmd.inbox.head? = some (tag :: code :: ps)) :
    runCommand code tag ps run s = .next
      (let a := run { s with cmd := { s.cmd with inbox := s.cmd.inbox.tail } }
      pushReply ⟨tag, code, a.result, a.data, a.resets⟩ a.state) := by
  simp [runCommand, takeFrame_ready _ _ h, judgeTagged, h1, Config.replyDepth, Nat.not_le.mpr h2]

/-- Everything a command row can come to: not its turn, discarded, overrun, or run and answered. -/
theorem runCommand_cases (code tag : Byte) (ps : List Byte) (run : State → Answer) (s : State) :
    runCommand code tag ps run s = .next s ∨
    ∃ u : State, (u = s ∨ u = { s with cmd := { s.cmd with inbox := s.cmd.inbox.tail } }) ∧
      ((u.cmd.resetPending = true ∧ runCommand code tag ps run s = .next u) ∨
      (4 ≤ u.cmd.replies.length ∧ runCommand code tag ps run s = .next (u.latch .replyOverrun)) ∨
      (u.cmd.replies.length < 4 ∧ runCommand code tag ps run s =
        .next (pushReply ⟨tag, code, (run u).result, (run u).data, (run u).resets⟩ (run u).state))) := by
  by_cases h : s.cmd.inbox = [] ∨ s.cmd.inbox.head? = some (tag :: code :: ps)
  · refine .inr ⟨{ s with cmd := { s.cmd with inbox := s.cmd.inbox.tail } }, .inr rfl, ?_⟩
    simp only [runCommand, takeFrame_ready _ _ h, judgeTagged, Config.replyDepth]
    by_cases h1 : s.cmd.resetPending = true
    · exact .inl ⟨h1, by simp [h1]⟩
    · by_cases h2 : 4 ≤ s.cmd.replies.length
      · exact .inr (.inl ⟨h2, by simp [h1, h2]⟩)
      · exact .inr (.inr ⟨by simpa using h2, by simp [h1, h2]⟩)
  · exact .inl (by simp [runCommand, takeFrame_none _ _ h])

/-! ### Reports (R121, R150 to R154) -/

/-- The pool is empty exactly when every slot is FREE. -/
theorem poolEmpty_iff (s : State) : s.poolEmpty = true ↔ ∀ i, s.ctx i = none := by
  constructor
  · intro h i
    simp only [State.poolEmpty, slots, List.all_cons, List.all_nil, Bool.and_true, Bool.and_eq_true,
      Option.isNone_iff_eq_none] at h
    fin_cases i <;> simp_all
  · intro h
    simp [State.poolEmpty, h]

/-- A report leaves the state as it is, or with no triad in progress takes the swap that the commit state waits for. -/
theorem report_cases (own : Bool) (s : State) :
    report own s = s ∨
    (s.inProgress = 0 ∧
      ((s.tables.commit = .nextBoundary ∧ report own s = swapPlain s) ∨
      (∃ limit elapsed, s.tables.commit = .quietWait limit elapsed ∧ s.poolEmpty = true ∧
        report own s = swapWithReset s) ∨
      (∃ earlier, s.tables.commit = .forceDue earlier ∧ (own = true ∨ s.engine.notices.length ≤ earlier) ∧
        report own s = forcedSwap s))) := by
  by_cases h : s.inProgress = 0
  · match hc : s.tables.commit with
    | .none => exact .inl (by simp [report, hc])
    | .nextBoundary => exact .inr ⟨h, .inl ⟨rfl, by simp [report, h, hc]⟩⟩
    | .quietWait l e =>
      by_cases hp : s.poolEmpty = true
      · exact .inr ⟨h, .inr (.inl ⟨l, e, rfl, hp, by simp [report, h, hc, hp]⟩)⟩
      · exact .inl (by simp [report, hc, hp])
    | .forceDue earlier =>
      by_cases hn : (!own && cameInForceDue earlier s) = true
      · exact .inl (by simp only [report, hc, hn, if_true, ite_self])
      · exact .inr ⟨h, .inr (.inr ⟨earlier, rfl, by simpa [cameInForceDue, or_iff_not_imp_left] using hn, by simp only [report, h, hc, hn]; rfl⟩)⟩
  · exact .inl (by simp [report, h])

/-! ### Timers and bits -/

/-- A timer has expired exactly when it runs and has reached its count. -/
theorem timerExpired_iff (limit : Nat) (t : Option Nat) :
    timerExpired limit t = true ↔ ∃ ms, t = some ms ∧ limit ≤ ms := by
  cases t <;> simp [timerExpired]

/-- A timer that stands has not expired. -/
@[simp] theorem timerExpired_none (limit : Nat) : timerExpired limit none = false := rfl

/-- A running timer has expired when its count is the limit or more. -/
@[simp] theorem timerExpired_some (limit ms : Nat) : timerExpired limit (some ms) = decide (limit ≤ ms) := rfl

/-- Bit i of the number is the i-th of the bits it was made of. -/
theorem bitsToNat_testBit (l : List Bool) (i : Nat) : (bitsToNat l).testBit i = l.getD i false := by
  induction l generalizing i with
  | nil => simp [bitsToNat]
  | cons b bs ih =>
    cases i with
    | zero => cases b <;> simp [bitsToNat, Nat.testBit_zero]
    | succ n =>
      rw [Nat.testBit_succ]
      have h : bitsToNat (b :: bs) / 2 = bitsToNat bs := by cases b <;> simp [bitsToNat]; omega
      rw [h, ih]; simp

/-- Bits are as many binary digits. -/
theorem bitsToNat_lt (l : List Bool) : bitsToNat l < 2 ^ l.length := by
  induction l with
  | nil => simp [bitsToNat]
  | cons b bs ih => simp only [bitsToNat, List.length_cons, Nat.pow_succ]; cases b <;> simp <;> omega

end Sys2Proof.Machine
end

