-- ==== Sys2Proof/Laws/Framing.lean ====
section
/-! SUPPORT. What a framer's moves do, and what the routing of a good frame touches. -/

namespace Sys2Proof.Machine

/-! ### Moves of a framer (R8 to R11) -/

/-- A discard takes the oldest byte and counts it. -/
theorem discard_held (a : Scan) :
    a.discard.held = a.held.tail ∧ a.discard.skipped = a.skipped + 1 ∧ a.discard.frames = a.frames ∧
      a.discard.crcErrors = a.crcErrors ∧ a.discard.lock = .hunt := by
  rcases a with ⟨l, r, h, f, s, c, b⟩
  cases l <;> simp [Scan.discard]

/-- What the judgement of `n` bytes comes to. -/
theorem judge_cases (n : Nat) (a : Scan) :
    (crcGood (a.held.take n) = true ∧ a.judge n =
      { a with lock := .locked, run := 0, held := a.held.drop n, frames := a.frames ++ [a.held.take n] }) ∨
    (crcGood (a.held.take n) = false ∧ a.lock = .hunt ∧ a.judge n = a.discard) ∨
    (crcGood (a.held.take n) = false ∧ a.lock = .locked ∧ a.run < 2 ∧ a.judge n =
      { a with run := a.run + 1, held := a.held.drop n, crcErrors := a.crcErrors + 1 }) ∨
    (crcGood (a.held.take n) = false ∧ a.lock = .locked ∧ 2 ≤ a.run ∧ a.judge n =
      { a with lock := .hunt, run := 0, held := a.held.drop n, crcErrors := a.crcErrors + 1, lost := true }) := by
  by_cases h : crcGood (a.held.take n) = true
  · exact .inl ⟨h, by simp [Scan.judge, h]⟩
  · have h' : crcGood (a.held.take n) = false := by simpa using h
    match hl : a.lock with
    | .hunt => exact .inr (.inl ⟨h', rfl, by simp [Scan.judge, h', hl]⟩)
    | .locked =>
      by_cases hr : a.run < 2
      · exact .inr (.inr (.inl ⟨h', rfl, hr, by simp [Scan.judge, h', hl, hr]⟩))
      · exact .inr (.inr (.inr ⟨h', rfl, by omega, by simp [Scan.judge, h', hl, hr]⟩))

/-- A move is a discard of a held byte, or with judging on the judgement of a complete frame of 6 bytes or more. -/
theorem move_cases (judging : Bool) (a b : Scan) (h : a.move judging = some b) :
    (a.held ≠ [] ∧ b = a.discard) ∨
    (judging = true ∧ ∃ n, frameLength a.held = some n ∧ 6 ≤ n ∧ n ≤ a.held.length ∧ b = a.judge n) := by
  unfold Scan.move at h
  split at h
  · cases h
  · rename_i first rest hh
    split at h
    · exact .inl ⟨by simp [hh], by simpa using h.symm⟩
    · split at h
      · cases h
      · rename_i second tail
        split at h
        · exact .inl ⟨by simp [hh], by simpa using h.symm⟩
        · split at h
          · cases h
          · rename_i n hn
            split at h
            · rename_i hc
              simp only [Bool.and_eq_true, decide_eq_true_eq] at hc
              refine .inr ⟨hc.1, n, hn, ?_, hc.2, by simpa using h.symm⟩
              match hl : a.held, hn with
              | _ :: _ :: _ :: len :: _, hn =>
                simp only [frameLength, Option.some.injEq] at hn
                omega
            · cases h

/-- A move takes at least one held byte. -/
theorem move_shorter (judging : Bool) (a b : Scan) (h : a.move judging = some b) :
    b.held.length < a.held.length := by
  have hd : a.held ≠ [] → a.discard.held.length < a.held.length := by
    intro hne
    rw [(discard_held a).1, List.length_tail]
    have := List.length_pos_iff.mpr hne
    omega
  obtain ⟨hne, rfl⟩ | ⟨-, n, -, h6, hn, rfl⟩ := move_cases judging a b h
  · exact hd hne
  · have hne : a.held ≠ [] := by
      intro e
      rw [e] at hn
      simp at hn
      omega
    have hdrop : (a.held.drop n).length < a.held.length := by
      rw [List.length_drop]
      omega
    obtain ⟨-, e⟩ | ⟨-, -, e⟩ | ⟨-, -, -, e⟩ | ⟨-, -, -, e⟩ := judge_cases n a <;> rw [e]
    · exact hdrop
    · exact hd hne
    · exact hdrop
    · exact hdrop

/-- With as much fuel as bytes held, a framer's work ends where no move is left. -/
theorem go_waits (judging : Bool) (fuel : Nat) (a : Scan) (h : a.held.length ≤ fuel) :
    (Scan.go judging fuel a).move judging = none := by
  induction fuel generalizing a with
  | zero =>
    have : a.held = [] := List.length_eq_zero_iff.mp (by omega)
    simp [Scan.go, Scan.move, this]
  | succ n ih =>
    simp only [Scan.go]
    split
    · assumption
    · rename_i b hb
      exact ih b (by have := move_shorter judging a b hb; omega)

/-- A condition that every move keeps holds at the end of the work. -/
theorem go_keeps (judging : Bool) (inv : Scan → Prop)
    (hmove : ∀ a b, inv a → a.move judging = some b → inv b) (fuel : Nat) (a : Scan) (h : inv a) :
    inv (Scan.go judging fuel a) := by
  induction fuel generalizing a with
  | zero => exact h
  | succ n ih =>
    simp only [Scan.go]
    split
    · exact h
    · rename_i b hb
      exact ih b (hmove a b h hb)

/-! ### Routing (R4 to R6, R13, R14) -/

/-- What a good frame's routing touches: the queues, the two inboxes, the flags and the counters. -/
structure SameOutsideRouting (s t : State) : Prop where
  pending : t.pending = s.pending
  sp : t.sp = s.sp
  lp : t.lp = s.lp
  rate : t.link.rate = s.link.rate
  lpLine : t.link.lpLine = s.link.lpLine
  spLine : t.link.spLine = s.link.spLine
  phase : t.asm.phase = s.asm.phase
  comps : t.asm.comps = s.asm.comps
  stall : t.asm.stall = s.asm.stall
  bank : t.bank = s.bank
  array : t.array = s.array
  engine : t.engine = s.engine
  arrivals : t.arrivals = s.arrivals
  tables : t.tables = s.tables
  replies : t.cmd.replies = s.cmd.replies
  resetPending : t.cmd.resetPending = s.cmd.resetPending
  mask : t.status.mask = s.status.mask
  interval : t.status.interval = s.status.interval
  timer : t.status.timer = s.status.timer
  slot : t.status.slot = s.status.slot

theorem SameOutsideRouting.refl (s : State) : SameOutsideRouting s s :=
  ⟨rfl, rfl, rfl, rfl, rfl, rfl, rfl, rfl, rfl, rfl, rfl, rfl, rfl, rfl, rfl, rfl, rfl, rfl, rfl, rfl⟩

theorem SameOutsideRouting.trans {s t u : State} (h : SameOutsideRouting s t) (k : SameOutsideRouting t u) :
    SameOutsideRouting s u :=
  ⟨k.pending.trans h.pending, k.sp.trans h.sp, k.lp.trans h.lp, k.rate.trans h.rate, k.lpLine.trans h.lpLine,
    k.spLine.trans h.spLine, k.phase.trans h.phase, k.comps.trans h.comps, k.stall.trans h.stall,
    k.bank.trans h.bank, k.array.trans h.array, k.engine.trans h.engine, k.arrivals.trans h.arrivals,
    k.tables.trans h.tables, k.replies.trans h.replies, k.resetPending.trans h.resetPending, k.mask.trans h.mask,
    k.interval.trans h.interval, k.timer.trans h.timer, k.slot.trans h.slot⟩

theorem sameOutsideRouting_offerForward (frame : List Byte) (s : State) :
    SameOutsideRouting s (offerForward frame s) := by
  obtain ⟨-, e⟩ | ⟨-, e⟩ := offerForward_cases frame s <;> rw [e] <;>
    exact ⟨rfl, rfl, rfl, rfl, rfl, rfl, rfl, rfl, rfl, rfl, rfl, rfl, rfl, rfl, rfl, rfl, rfl, rfl, rfl, rfl⟩

theorem sameOutsideRouting_offerUpstream (frame : List Byte) (s : State) :
    SameOutsideRouting s (offerUpstream frame s) := by
  obtain ⟨-, e⟩ | ⟨-, e⟩ := offerUpstream_cases frame s <;> rw [e] <;>
    exact ⟨rfl, rfl, rfl, rfl, rfl, rfl, rfl, rfl, rfl, rfl, rfl, rfl, rfl, rfl, rfl, rfl, rfl, rfl, rfl, rfl⟩

theorem sameOutsideRouting_examineSample (payload : List Byte) (s : State) :
    SameOutsideRouting s (examineSample payload s) := by
  unfold examineSample
  split
  · exact .refl s
  · split
    · exact .refl s
    · split <;>
        exact ⟨rfl, rfl, rfl, rfl, rfl, rfl, rfl, rfl, rfl, rfl, rfl, rfl, rfl, rfl, rfl, rfl, rfl, rfl, rfl, rfl⟩

theorem sameOutsideRouting_route (p : Port) (frame : List Byte) (s : State) :
    SameOutsideRouting s (route p frame s) := by
  cases p with
  | sp =>
    simp only [route, routeSensor]
    split
    · exact (sameOutsideRouting_offerForward frame s).trans (sameOutsideRouting_examineSample _ _)
    · exact sameOutsideRouting_offerForward frame s
  | lp =>
    simp only [route, routeLogger]
    split
    · exact ⟨rfl, rfl, rfl, rfl, rfl, rfl, rfl, rfl, rfl, rfl, rfl, rfl, rfl, rfl, rfl, rfl, rfl, rfl, rfl, rfl⟩
    · exact sameOutsideRouting_offerUpstream frame s

end Sys2Proof.Machine
end

