-- ==== Sys2Proof/Laws/PerInstr.lean ====
section
/-! SUPPORT. For each command: a well-formed command row's payload is a frame's payload and decodes to the row again. -/

namespace Sys2Proof.Laws.FitsAFrame

/-- The payload of a well-formed command row fits a frame (R2) and is that row's and no other's (R160, section 11.2). -/
def Statement (i : Instr) : Prop :=
  wellFormed i = true → ∀ p, encodePayload i = some p → p.length ≤ 255 ∧ decodePayload p = i

theorem of_none (i : Instr) (h : encodePayload i = none) : Statement i := by
  intro _ p hp
  rw [h] at hp
  cases hp

theorem of_some (i : Instr) (q : List Byte) (h : encodePayload i = some q) (hd : decodePayload q = i) :
    Statement i := by
  intro hw p hp
  rw [h] at hp
  cases hp
  unfold wellFormed at hw
  rw [h] at hw
  simp only [payloadFits, Bool.and_eq_true, decide_eq_true_eq] at hw
  exact ⟨hw.1, hd⟩

theorem fullReset (straps : BitVec 2) : Statement (.fullReset straps) :=
  of_none _ rfl

theorem rxByte (p : Port) (b : Byte) (stop : StopBit) (wasHigh : Bool) : Statement (.rxByte p b stop wasHigh) :=
  of_none _ rfl

theorem frameReceived (p : Port) : Statement (.frameReceived p) :=
  of_none _ rfl

theorem byteTimeout (p : Port) : Statement (.byteTimeout p) :=
  of_none _ rfl

theorem sampleCopyTaken : Statement .sampleCopyTaken :=
  of_none _ rfl

theorem malformedNoticeTaken : Statement .malformedNoticeTaken :=
  of_none _ rfl

theorem stallTimerExpiry (stream : Comp) : Statement (.stallTimerExpiry stream) :=
  of_none _ rfl

theorem triadIssue : Statement .triadIssue :=
  of_none _ rfl

theorem filterTriad : Statement .filterTriad :=
  of_none _ rfl

theorem detectorTriad : Statement .detectorTriad :=
  of_none _ rfl

theorem engineTriad : Statement .engineTriad :=
  of_none _ rfl

theorem gapNoticeFilter : Statement .gapNoticeFilter :=
  of_none _ rfl

theorem gapNoticeDetector : Statement .gapNoticeDetector :=
  of_none _ rfl

theorem gapNoticeEngine : Statement .gapNoticeEngine :=
  of_none _ rfl

theorem restartFilter : Statement .restartFilter :=
  of_none _ rfl

theorem restartDetector : Statement .restartDetector :=
  of_none _ rfl

theorem restartEngine : Statement .restartEngine :=
  of_none _ rfl

theorem commitWaitExpiry : Statement .commitWaitExpiry :=
  of_none _ rfl

theorem noiseTimerExpiry : Statement .noiseTimerExpiry :=
  of_none _ rfl

theorem upstreamFrameStart : Statement .upstreamFrameStart :=
  of_none _ rfl

theorem upstreamFrameSent : Statement .upstreamFrameSent :=
  of_none _ rfl

theorem egressChoice : Statement .egressChoice :=
  of_none _ rfl

theorem egressFrameSent (straps : BitVec 2) : Statement (.egressFrameSent straps) :=
  of_none _ rfl

theorem commandUndecoded (payload : List Byte) : Statement (.commandUndecoded payload) := by
  intro hw p hp
  cases hp
  simp only [wellFormed, encodePayload, payloadFits, undecodable, Bool.and_eq_true, decide_eq_true_eq] at hw
  exact hw

theorem echo (tag : Byte) (params : List Byte) : Statement (.echo tag params) :=
  of_some _ _ rfl rfl

theorem statusRead (tag : Byte) (params : List Byte) : Statement (.statusRead tag params) :=
  of_some _ _ rfl rfl

theorem flagsClear (tag : Byte) (params : List Byte) : Statement (.flagsClear tag params) :=
  of_some _ _ rfl rfl

theorem attentionMask (tag : Byte) (params : List Byte) : Statement (.attentionMask tag params) :=
  of_some _ _ rfl rfl

theorem tableWrite (tag : Byte) (params : List Byte) : Statement (.tableWrite tag params) :=
  of_some _ _ rfl rfl

theorem tableRead (tag : Byte) (params : List Byte) : Statement (.tableRead tag params) :=
  of_some _ _ rfl rfl

theorem tablesCommit (tag : Byte) (params : List Byte) : Statement (.tablesCommit tag params) :=
  of_some _ _ rfl rfl

theorem commitCancel (tag : Byte) (params : List Byte) : Statement (.commitCancel tag params) :=
  of_some _ _ rfl rfl

theorem mapGuard (tag : Byte) (params : List Byte) : Statement (.mapGuard tag params) :=
  of_some _ _ rfl rfl

theorem egressMode (tag : Byte) (params : List Byte) : Statement (.egressMode tag params) :=
  of_some _ _ rfl rfl

theorem arrivalsFlush (tag : Byte) (params : List Byte) : Statement (.arrivalsFlush tag params) :=
  of_some _ _ rfl rfl

theorem reportInterval (tag : Byte) (params : List Byte) : Statement (.reportInterval tag params) :=
  of_some _ _ rfl rfl

theorem pickerRestart (tag : Byte) (params : List Byte) : Statement (.pickerRestart tag params) :=
  of_some _ _ rfl rfl

theorem partReset (tag : Byte) (params : List Byte) : Statement (.partReset tag params) :=
  of_some _ _ rfl rfl

end Sys2Proof.Laws.FitsAFrame
end

