-- ==== Sys2Proof/Laws/Picking.lean ====
section
/-! SUPPORT. The shared operations of the picking blocks and of the assembler: saturation, the rings, the grid, and long
gaps. -/

namespace Sys2Proof.Machine

open Sys2Proof.Safety

/-- Saturation gives a signed 24-bit value (R43). -/
theorem saturate24_fits (v : Int) : Fits24 (saturate24 v) := by
  unfold saturate24 Fits24
  omega

/-- Saturation leaves a signed 24-bit value as it is (R43). -/
theorem saturate24_of_fits {v : Int} (h : Fits24 v) : saturate24 v = v := by
  unfold saturate24
  unfold Fits24 at h
  omega

/-- A section's output and both outputs it holds after a turn are signed 24-bit values, when those it held were. -/
theorem runSection_fits (k : Coeffs) (m : Section) (x : Int) (h : SectionFits m) :
    Fits24 (runSection k m x).y ∧ SectionFits (runSection k m x).mem :=
  ⟨saturate24_fits _, saturate24_fits _, h.1⟩

/-- The same of both sections in cascade (R44). -/
theorem runCascade_fits (cfg : BandCfg) (m : Cascade) (x : Int) (h1 : SectionFits m.sec1) (h2 : SectionFits m.sec2) :
    Fits24 (runCascade cfg m x).y ∧ SectionFits (runCascade cfg m x).mem.sec1 ∧
      SectionFits (runCascade cfg m x).mem.sec2 :=
  ⟨(runSection_fits _ _ _ h2).1, (runSection_fits _ _ _ h1).2, (runSection_fits _ _ _ h2).2⟩

/-- A CF value holds to 32 bits (R52). -/
theorem cf_le (shift : Nat) (y : PerComp Int) : cfVertical shift y ≤ max32 ∧ cfHorizontal shift y ≤ max32 :=
  ⟨Nat.min_le_right _ _, Nat.min_le_right _ _⟩

/-- An average stays within a bound that holds for it and for the value it moves toward (R57). -/
theorem average_le (avg k cf bound : Nat) (ha : avg ≤ bound) (hc : cf ≤ bound) : average avg k cf ≤ bound := by
  unfold average
  have hp : (0 : Int) < ((2 ^ k : Nat) : Int) := by positivity
  by_cases h : avg ≤ cf
  · have h0 : (0 : Int) ≤ (cf : Int) - avg := by omega
    have := Int.ediv_le_self ((2 ^ k : Nat) : Int) h0
    omega
  · have : ((cf : Int) - avg) / ((2 ^ k : Nat) : Int) ≤ 0 := by
      apply Int.le_of_lt_add_one
      rw [zero_add]
      exact Int.ediv_lt_of_lt_mul hp (by nlinarith)
    omega

/-- A ring takes an entry at its end and keeps at most 128 (R71, R72). -/
theorem ringAdd_length (e : RingEntry) (ring : List RingEntry) (h : ring.length ≤ 128) :
    (ringAdd e ring).length ≤ 128 := by
  unfold ringAdd Config.ringDepth
  split
  · simp; omega
  · rename_i hn
    rw [List.length_append, List.length_tail, List.length_singleton]
    omega

/-- The grid's slots are as many as the samples (R22). -/
@[simp] theorem gridSlots_length (p : Nat) (b : Bool) (t : Nat) (xs : List Sample) :
    (gridSlots p b t xs).length = xs.length := by
  induction xs generalizing t with
  | nil => rfl
  | cons x xs ih => simp [gridSlots, ih]

/-- The grid's slots one by one (R22). -/
theorem gridSlots_getElem (p : Nat) (b : Bool) (t : Nat) (xs : List Sample) (i : Nat) :
    (gridSlots p b t xs)[i]? = xs[i]?.map (fun x => ⟨t + i * p, x.value, x.clip, b⟩) := by
  induction xs generalizing t i with
  | nil => simp [gridSlots]
  | cons x xs ih =>
    cases i with
    | zero => simp [gridSlots]
    | succ i =>
      simp only [gridSlots, List.getElem?_cons_succ, ih]
      have : t + p + i * p = t + (i + 1) * p := by ring
      rw [this]

/-- What an appended frame comes to: a long gap past 128 samples, and otherwise the samples behind the buffer. -/
theorem appendAt_cases (period t : Nat) (bridge xs : List Sample) (last : Sample) (c : CompState) :
    (128 < c.buffer.length + bridge.length + xs.length ∧ appendAt period t bridge xs last c = .longGap) ∨
    (c.buffer.length + bridge.length + xs.length ≤ 128 ∧ ∃ d, appendAt period t bridge xs last c = .append d ∧
      d.buffer.length = c.buffer.length + bridge.length + xs.length ∧
      d.anchor = some ⟨t + bridge.length * period + xs.length * period, xs.getLastD last⟩) := by
  unfold appendAt Config.bufferDepth
  split
  · exact .inl ⟨by assumption, rfl⟩
  · exact .inr ⟨by omega, _, rfl, by simp [Nat.add_assoc], rfl⟩

/-- What the judgement of alignment does is nothing, a trim, or a trim with the outcome of the head test; it touches the
assembler and the flags alone. -/
theorem judgeAlignment_touches (s : State) : ∃ phase comps flags,
    judgeAlignment s = { s with
      asm := { s.asm with phase := phase, comps := comps }, status := { s.status with flags := flags } } := by
  unfold judgeAlignment
  split
  · dsimp only
    split
    · exact ⟨s.asm.phase, _, s.status.flags, rfl⟩
    · split
      · exact ⟨_, _, s.status.flags, rfl⟩
      · exact ⟨_, _, _, rfl⟩
  · exact ⟨s.asm.phase, s.asm.comps, s.status.flags, rfl⟩

/-- A long gap in the model is the one of the statements (R30, R31). -/
theorem longGap_eq (s : State) : longGap s = afterLongGap s := rfl

end Sys2Proof.Machine
end

