-- ==== Sys2Proof/Laws/Pool.lean ====
section
/-! SUPPORT. What the Context Engine's operations touch: the pool, the event counter, the allocation pointer, the Arrival
Queue, the flags and the counters, and nothing else; and what each of them does with one context. -/

namespace Sys2Proof.Machine

/-- Two states that agree but for the pool, its pointer and counter, the records queued, the flags and the counters. -/
structure SameOutsideEngine (s t : State) : Prop where
  pending : t.pending = s.pending
  sp : t.sp = s.sp
  lp : t.lp = s.lp
  link : t.link = s.link
  asm : t.asm = s.asm
  bank : t.bank = s.bank
  array : t.array = s.array
  tables : t.tables = s.tables
  cmd : t.cmd = s.cmd
  inbox : t.engine.inbox = s.engine.inbox
  notices : t.engine.notices = s.engine.notices
  mode : t.arrivals.mode = s.arrivals.mode
  mask : t.status.mask = s.status.mask
  interval : t.status.interval = s.status.interval
  timer : t.status.timer = s.status.timer
  slot : t.status.slot = s.status.slot

theorem SameOutsideEngine.refl (s : State) : SameOutsideEngine s s :=
  ⟨rfl, rfl, rfl, rfl, rfl, rfl, rfl, rfl, rfl, rfl, rfl, rfl, rfl, rfl, rfl, rfl⟩

theorem SameOutsideEngine.trans {s t u : State} (h : SameOutsideEngine s t) (k : SameOutsideEngine t u) :
    SameOutsideEngine s u :=
  ⟨k.pending.trans h.pending, k.sp.trans h.sp, k.lp.trans h.lp, k.link.trans h.link, k.asm.trans h.asm,
    k.bank.trans h.bank, k.array.trans h.array, k.tables.trans h.tables, k.cmd.trans h.cmd, k.inbox.trans h.inbox,
    k.notices.trans h.notices, k.mode.trans h.mode, k.mask.trans h.mask, k.interval.trans h.interval,
    k.timer.trans h.timer, k.slot.trans h.slot⟩

/-- The active rules depend on the tables alone. -/
theorem SameOutsideEngine.rules {s t : State} (h : SameOutsideEngine s t) : t.rules = s.rules := by
  simp [State.rules, h.tables]

/-- A fold of operations that each touch only the engine touches only the engine. -/
theorem sameOutsideEngine_foldl {α : Type} (f : State → α → State) (hf : ∀ s a, SameOutsideEngine s (f s a))
    (xs : List α) (s : State) : SameOutsideEngine s (xs.foldl f s) := by
  induction xs generalizing s with
  | nil => exact .refl s
  | cons x xs ih => exact (hf s x).trans (ih _)

/-! ### One lemma for each operation -/

theorem sameOutsideEngine_latch (s : State) (f : Flag) : SameOutsideEngine s (s.latch f) :=
  ⟨rfl, rfl, rfl, rfl, rfl, rfl, rfl, rfl, rfl, rfl, rfl, rfl, rfl, rfl, rfl, rfl⟩

theorem sameOutsideEngine_bump (s : State) (k : Counter) (n : Nat) : SameOutsideEngine s (s.bump k n) :=
  ⟨rfl, rfl, rfl, rfl, rfl, rfl, rfl, rfl, rfl, rfl, rfl, rfl, rfl, rfl, rfl, rfl⟩

theorem sameOutsideEngine_setCtx (s : State) (i : Fin 8) (c : Option Context) :
    SameOutsideEngine s (s.setCtx i c) :=
  ⟨rfl, rfl, rfl, rfl, rfl, rfl, rfl, rfl, rfl, rfl, rfl, rfl, rfl, rfl, rfl, rfl⟩

theorem sameOutsideEngine_setCounter (s : State) (n : Nat) : SameOutsideEngine s (s.setCounter n) :=
  ⟨rfl, rfl, rfl, rfl, rfl, rfl, rfl, rfl, rfl, rfl, rfl, rfl, rfl, rfl, rfl, rfl⟩

theorem sameOutsideEngine_enqueue (s : State) (r : Record) : SameOutsideEngine s (s.enqueue r) :=
  ⟨rfl, rfl, rfl, rfl, rfl, rfl, rfl, rfl, rfl, rfl, rfl, rfl, rfl, rfl, rfl, rfl⟩

theorem sameOutsideEngine_admit (s : State) (r : Record) : SameOutsideEngine s (admitRecord r s) := by
  obtain ⟨-, r', -, e⟩ | ⟨-, -, -, e⟩ | ⟨-, e⟩ := admitRecord_cases r s <;> rw [e]
  · exact sameOutsideEngine_enqueue s r'
  · exact sameOutsideEngine_bump s _ _
  · exact (sameOutsideEngine_bump s _ _).trans (sameOutsideEngine_latch _ _)

/-- Admission leaves the engine as it is. -/
@[simp] theorem admitRecord_engine (s : State) (r : Record) : (admitRecord r s).engine = s.engine := by
  obtain ⟨-, r', -, e⟩ | ⟨-, -, -, e⟩ | ⟨-, e⟩ := admitRecord_cases r s <;> rw [e] <;> rfl

@[simp] theorem admitRecord_ctx (s : State) (r : Record) (i : Fin 8) : (admitRecord r s).ctx i = s.ctx i := by
  simp [State.ctx]

@[simp] theorem admitRecord_rules (s : State) (r : Record) : (admitRecord r s).rules = s.rules :=
  (sameOutsideEngine_admit s r).rules

theorem sameOutsideEngine_closeContext (s : State) (cause : Cause) (i : Fin 8) (c : Context) :
    SameOutsideEngine s (closeContext cause i c s) :=
  (sameOutsideEngine_admit s _).trans (sameOutsideEngine_setCtx _ _ _)

theorem sameOutsideEngine_generateBare (s : State) (slot time quality : Nat) (mask : PerBand Bool) (kind : Kind)
    (a b c : Bool) : SameOutsideEngine s (generateBare slot time quality mask kind a b c s) :=
  ((sameOutsideEngine_setCounter s _).trans (sameOutsideEngine_admit _ _)).trans (sameOutsideEngine_bump _ _ _)

/-- A bare onset leaves every context as it is. -/
@[simp] theorem generateBare_ctx (s : State) (slot time quality : Nat) (mask : PerBand Bool) (kind : Kind)
    (a b c : Bool) (i : Fin 8) : (generateBare slot time quality mask kind a b c s).ctx i = s.ctx i := by
  simp [generateBare]

theorem sameOutsideEngine_forceContext (s : State) (cause : Cause) (i : Fin 8) :
    SameOutsideEngine s (forceContext cause s i) := by
  simp only [forceContext]
  split
  · exact .refl s
  · split
    · exact (sameOutsideEngine_generateBare _ _ _ _ _ _ _ _ _).trans (sameOutsideEngine_setCtx _ _ _)
    · exact sameOutsideEngine_closeContext _ _ _ _
    · exact sameOutsideEngine_closeContext _ _ _ _

theorem sameOutsideEngine_forcedClosure (s : State) (cause : Cause) : SameOutsideEngine s (forcedClosure cause s) :=
  sameOutsideEngine_foldl _ (fun u i => sameOutsideEngine_forceContext u cause i) _ s

/-- One context of a forced closure leaves its slot FREE and every other slot as it is. -/
theorem forceContext_ctx (s : State) (cause : Cause) (i j : Fin 8) :
    (forceContext cause s i).ctx j = if j = i then none else s.ctx j := by
  have set_none : ∀ u : State, (u.setCtx i none).ctx j = if j = i then none else u.ctx j := by
    intro u
    by_cases h : j = i
    · subst h; simp
    · rw [ctx_setCtx_ne _ _ h, if_neg h]
  simp only [forceContext]
  split
  · rename_i h
    by_cases hj : j = i
    · subst hj; simpa using h
    · simp [hj]
  · split
    · rw [set_none, generateBare_ctx]
    · rw [closeContext, set_none, admitRecord_ctx]
    · rw [closeContext, set_none, admitRecord_ctx]

theorem sameOutsideEngine_ownEvent (s : State) (ph : Phase) (st : CtxState) (i : Fin 8) (c : Context) :
    SameOutsideEngine s (ownEvent ph st i c s) :=
  ((sameOutsideEngine_setCounter s _).trans (sameOutsideEngine_setCtx _ _ _)).trans (sameOutsideEngine_admit _ _)

theorem sameOutsideEngine_attachS (s : State) (i j : Fin 8) (c p : Context) :
    SameOutsideEngine s (attachS i j c p s) :=
  ((sameOutsideEngine_setCtx s _ _).trans (sameOutsideEngine_admit _ _)).trans (sameOutsideEngine_setCtx _ _ _)

theorem sameOutsideEngine_absorb (s : State) (i j : Fin 8) (c p : Context) :
    SameOutsideEngine s (absorb i j c p s) :=
  (sameOutsideEngine_setCtx s _ _).trans (sameOutsideEngine_setCtx _ _ _)

/-- The four ways a candidate is resolved. -/
theorem complete_cases (i : Fin 8) (c : Context) (s : State) :
    ∃ c' : Context, c' = { c with window := finishPolarity c.window, parent := parentOf s i c.onset } ∧
      (complete i c s = ownEvent .p .open_ i c' s ∨
      (∃ cls, cls ≠ Phase.p ∧ complete i c s = ownEvent cls .coda i c' s) ∨
      (∃ j p, s.ctx j = some p ∧ p.sPart = none ∧ parentOf s i c.onset = some j ∧ complete i c s = attachS i j c' p s) ∨
      (∃ j p, s.ctx j = some p ∧ parentOf s i c.onset = some j ∧ complete i c s = absorb i j c' p s)) := by
  refine ⟨_, rfl, ?_⟩
  simp only [complete, resolveAs]
  split
  · exact .inl rfl
  · rename_i j _ hj
    split
    · exact .inr (.inl ⟨_, by simp, rfl⟩)
    · rename_i p hp
      split
      · rename_i hs; exact .inr (.inr (.inl ⟨j, p, hp, hs, hj, rfl⟩))
      · exact .inr (.inr (.inr ⟨j, p, hp, hj, rfl⟩))
  · rename_i j _ hj
    split
    · exact .inr (.inl ⟨_, by simp, rfl⟩)
    · rename_i p hp
      exact .inr (.inr (.inr ⟨j, p, hp, hj, rfl⟩))
  · exact .inr (.inl ⟨_, by simp, rfl⟩)
  · exact .inr (.inl ⟨_, by simp, rfl⟩)

theorem sameOutsideEngine_complete (s : State) (i : Fin 8) (c : Context) : SameOutsideEngine s (complete i c s) := by
  obtain ⟨c', -, e | ⟨cls, -, e⟩ | ⟨j, p, -, -, -, e⟩ | ⟨j, p, -, -, e⟩⟩ := complete_cases i c s <;> rw [e]
  · exact sameOutsideEngine_ownEvent _ _ _ _ _
  · exact sameOutsideEngine_ownEvent _ _ _ _ _
  · exact sameOutsideEngine_attachS _ _ _ _ _
  · exact sameOutsideEngine_absorb _ _ _ _ _

theorem sameOutsideEngine_lifeTest (s : State) (i : Fin 8) (c : Context) : SameOutsideEngine s (lifeTest i c s) := by
  simp only [lifeTest]
  split
  · exact sameOutsideEngine_closeContext _ _ _ _
  · exact sameOutsideEngine_setCtx _ _ _

theorem sameOutsideEngine_contextTurn (r : Results) (s : State) (i : Fin 8) :
    SameOutsideEngine s (contextTurn r s i) := by
  simp only [contextTurn]
  split
  · exact .refl s
  · split
    · simp only [measureTurn]
      split
      · exact sameOutsideEngine_complete _ _ _
      · exact sameOutsideEngine_setCtx _ _ _
    · exact sameOutsideEngine_lifeTest _ _ _
    · simp only [codaTurn]
      split
      · exact sameOutsideEngine_closeContext _ _ _ _
      · exact sameOutsideEngine_lifeTest _ _ _

theorem sameOutsideEngine_takeContexts (r : Results) (s : State) : SameOutsideEngine s (takeContexts r s) :=
  sameOutsideEngine_foldl _ (fun u i => sameOutsideEngine_contextTurn r u i) _ s

theorem sameOutsideEngine_allocateAt (s : State) (i : Fin 8) (t : Trigger) (f : Found) (time : Nat) :
    SameOutsideEngine s (allocateAt i t f time s) := by
  have h : SameOutsideEngine s { s with engine := { s.engine with ptr := i } } :=
    ⟨rfl, rfl, rfl, rfl, rfl, rfl, rfl, rfl, rfl, rfl, rfl, rfl, rfl, rfl, rfl, rfl⟩
  simp only [allocateAt]
  split
  · exact (h.trans (sameOutsideEngine_setCtx _ _ _)).trans (sameOutsideEngine_complete _ _ _)
  · exact h.trans (sameOutsideEngine_setCtx _ _ _)

theorem sameOutsideEngine_evict (s : State) (i : Fin 8) : SameOutsideEngine s (evict i s) := by
  simp only [evict]
  split
  · exact .refl s
  · exact ((sameOutsideEngine_closeContext _ _ _ _).trans (sameOutsideEngine_bump _ _ _)).trans
      (sameOutsideEngine_latch _ _)

theorem sameOutsideEngine_takeTrigger (r : Results) (s : State) (t : Trigger) :
    SameOutsideEngine s (takeTrigger r s t) := by
  simp only [takeTrigger]
  split
  · simp only [mergeInto]
    split
    · exact .refl s
    · exact sameOutsideEngine_setCtx _ _ _
  · simp only [allocate]
    split
    · exact sameOutsideEngine_allocateAt _ _ _ _ _
    · split
      · exact (sameOutsideEngine_evict _ _).trans (sameOutsideEngine_allocateAt _ _ _ _ _)
      · exact (sameOutsideEngine_generateBare _ _ _ _ _ _ _ _ _).trans (sameOutsideEngine_latch _ _)

theorem sameOutsideEngine_takeTriggers (r : Results) (s : State) : SameOutsideEngine s (takeTriggers r s) :=
  sameOutsideEngine_foldl _ (fun u t => sameOutsideEngine_takeTrigger r u t) _ s

/-! ### Numbers (R102) -/

theorem successor_range (n : Nat) (h : n ≤ 65535) : 1 ≤ successor n ∧ successor n ≤ 65535 := by
  simp only [successor]
  split <;> omega

theorem nextNumber_range (held : List Nat) (tries n : Nat) (h : n ≤ 65535) :
    1 ≤ nextNumber held tries n ∧ nextNumber held tries n ≤ 65535 := by
  induction tries generalizing n with
  | zero => exact successor_range n h
  | succ k ih =>
    simp only [nextNumber]
    split
    · exact ih _ (successor_range n h).2
    · exact successor_range n h

/-! ### The onset order (R96) -/

theorem mem_insertByOnset (key : Fin 8 → Nat) (i j : Fin 8) (xs : List (Fin 8)) :
    j ∈ insertByOnset key i xs ↔ j = i ∨ j ∈ xs := by
  induction xs with
  | nil => simp [insertByOnset]
  | cons x xs ih =>
    simp only [insertByOnset]
    split
    · simp
    · simp only [List.mem_cons, ih]
      tauto

theorem insertByOnset_perm (key : Fin 8 → Nat) (i : Fin 8) (xs : List (Fin 8)) :
    (insertByOnset key i xs).Perm (i :: xs) := by
  induction xs with
  | nil => exact .refl _
  | cons x xs ih =>
    simp only [insertByOnset]
    split
    · exact .refl _
    · exact (List.Perm.cons x ih).trans (.swap _ _ _)

end Sys2Proof.Machine
end

