-- ==== Sys2Proof/Tests/Slice0.lean ====
section
/-! SUPPORT. The model's own tests: the static checks, the spec's worked cases, one step of each command, and for each
statement with premises a state and operands that meet them. Expected results are the spec's own figures. -/

namespace Sys2Proof.Tests

open Sys2Proof.Machine Sys2Proof.Safety

set_option Elab.async false

/-! ### Helpers -/

def bytesOf (ns : List Nat) : List Byte := ns.map (BitVec.ofNat 8)

def padTo (n : Nat) (bs : List Byte) : List Byte := (bs ++ List.replicate n 0).take n

/-- Rate code 3, stall 1,000 ms, bridge limit 4, no swap, Z, N and E on channels 10, 11 and 12 (section 2.4's map). -/
def chanImg : List Byte :=
  padTo 32 (bytesOf [3, 3, 232, 4, 0, 10, 0, 127, 255, 255, 11, 0, 127, 255, 255, 12, 0, 127, 255, 255])

/-- A section with b0 of 1.0 and the rest 0. -/
def unitCoeffs : List Byte := bytesOf [64, 0, 0, 0, 0, 0, 0, 0, 0, 0, 0, 0, 0, 0, 0]

/-- B0 alone, with both of its detectors, CF shifts of 8 and sections that pass their input. -/
def bandImg : List Byte := padTo 96 (bytesOf [232, 8] ++ unitCoeffs ++ unitCoeffs)

/-- The profile of section 4.6: ks 3, kl 7, thr_on 64, thr_off 24, floor 4, onset factor 32, depth 20, max_on 500. -/
def profile1 : List Byte := padTo 24 (bytesOf [3, 7, 0, 64, 0, 24, 0, 0, 4, 0, 32, 20, 0, 128, 1, 244])

def profImg : List Byte := profile1 ++ profile1 ++ profile1 ++ profile1 ++ profile1 ++ profile1

/-- fm_window 6, fm_factor 64, ratios 48, s_min 150, s_max 600, merge 3, coda_hold 3,000, max_event 20,000, W 24. -/
def rulesImg : List Byte :=
  padTo 32 (bytesOf [6, 0, 64, 0, 48, 0, 48, 0, 150, 2, 88, 3, 11, 184, 0, 0, 78, 32, 24])

def legal : PerTable (List Byte) := ⟨chanImg, bandImg, profImg, rulesImg⟩

def marks : PerTable Bool := ⟨true, true, true, true⟩

/-- RUNNING under the tables above, with shadow images equal to the active ones. -/
def armed : State :=
  { State.reset with tables := ⟨legal, legal, marks, marks, .none, none, .running⟩ }

/-- What a field is after one step with a command in front. -/
def afterStep {α : Type} (c : Instr) (s : State) (f : State → α) : Option α :=
  match step { s with pending := [c] } with
  | .next t => some (f t)
  | .fault _ => none
  | .refused _ => none

def withFramer (p : Port) (lock : Lock) (run : Nat) (held : List Byte) (s : State) : State :=
  s.setFramer p ⟨lock, run, held, some 0, false⟩

/-- A port's byte timer at a count. -/
def withByteTimer (p : Port) (ms : Nat) (s : State) : State := s.setFramer p { s.framer p with timer := some ms }

def withCommit (c : CommitState) (s : State) : State := s.setCommit c

/-- A triad with the same value, unmarked, on all three components. -/
def triadOf (index : Nat) (v : Int) : Triad := ⟨index, 2020000 + index * 10000, .all ⟨v, false, false⟩⟩

def withTriad (t : Triad) (s : State) : State := { s with bank := { s.bank with inbox := [t] } }

def entryOf (index cfV cfH : Nat) (yZ : Int) : RingEntry := ⟨index, yZ, cfV, cfH, .all false, .all false⟩

def outOf (e : RingEntry) : BandOut := ⟨⟨e.yZ, 0, 0⟩, e⟩

def detStates : PerDet DetState := ⟨.idle, .idle, .off, .off, .off, .off⟩

/-- The results of a triad in B0 alone. -/
def resultsAt (index : Nat) (e : RingEntry) (triggers : List Trigger) (longs : List Band) : Results :=
  ⟨index, 2020000 + index * 10000, ⟨some (outOf e), none, none⟩, detStates, triggers, longs⟩

def ctxOf (state : CtxState) (kind : Kind) (onset event : Nat) (phase : Option Phase) : Context :=
  { state := state, event := event, phase := phase, kind := kind, band := .b0, onset := onset,
    onsetTime := 2020000 + onset * 10000, quality := 0, mask := ⟨true, false, false⟩,
    lh := if kind = .v then some 100 else none,
    window := ⟨0, 0, 0, if kind = .v then .pending else .absent, false⟩, parent := none, sPart := none,
    sAbsent := false, secondaries := 0, peaks := .all ⟨0, 0⟩, truncated := false, bridged := false,
    clip := .all false, long := false, codaCount := 0, life := 0 }

def withCtx (i : Fin 8) (c : Context) (s : State) : State := s.setCtx i (some c)

/-- All eight slots taken by the same context. -/
def fullPool (c : Context) (s : State) : State :=
  { s with engine := { s.engine with pool := Vector.replicate 8 (some c) } }

def withNotices (n : Notice) (s : State) : State :=
  { s with
    bank := { s.bank with notices := [n] }
    array := { s.array with notices := [n] }
    engine := { s.engine with notices := [n] } }

def aRecord : Record := .close ⟨1, .quiet, 0, false, false, 0, ⟨false, false, .all false⟩, false, false, none⟩

def withRecords (n : Nat) (s : State) : State :=
  { s with arrivals := { s.arrivals with records := List.replicate n aRecord } }

def withReplies (n : Nat) (s : State) : State :=
  { s with cmd := { s.cmd with replies := List.replicate n ⟨1, 1, .done, [], false⟩ } }

/-! ### The static checks -/

/-- A payload of 256 bytes fits no frame (R2). -/
theorem test_wellFormed_refuses_long_payload : wellFormed (.echo 1 (List.replicate 254 0)) = false := by
  decide +kernel

theorem test_wellFormed_takes_longest_payload : wellFormed (.echo 1 (List.replicate 253 0)) = true := by
  decide +kernel

/-- A payload whose code names a command is not COMMAND_UNDECODED's (R160). -/
theorem test_wellFormed_refuses_known_code :
    wellFormed (.commandUndecoded [7, 0x13]) = false ∧ wellFormed (.commandUndecoded [7, 0x15]) = true ∧
      wellFormed (.commandUndecoded (7 :: 0x15 :: List.replicate 254 0)) = false := by
  decide +kernel

/-- Section 11.2: the payload 05 14 00 2A closes the guard with code 42. -/
theorem test_decode_mapGuard : decodePayload [5, 0x14, 0, 42] = .mapGuard 5 [0, 42] := by decide +kernel

theorem test_no_word_is_a_command : decodeTableWord 32 0x14050000 = none := by decide +kernel

/-! ### The spec's worked cases -/

/-- Section 1.2: the empty frame of kind 0x10 is C9 36 10 00 60 0E. -/
theorem test_crc_of_an_empty_frame : buildFrame 0x10 [] = [0xC9, 0x36, 0x10, 0x00, 0x60, 0x0E] := by decide +kernel

/-- Section 3.4: a first-order high-pass and a gain of one half on a step of 1,000 give 250, 225, 203 and 183. -/
theorem test_high_pass_from_a_step :
    let cfg : BandCfg := ⟨true, true, true, 8, 8, ⟨2097152, -2097152, 0, -3774874, 0⟩, ⟨2097152, 0, 0, 0, 0⟩⟩
    let a := runCascade cfg ⟨.reset, .reset⟩ 1000
    let b := runCascade cfg a.mem 1000
    let c := runCascade cfg b.mem 1000
    let d := runCascade cfg c.mem 1000
    [a.y, b.y, c.y, d.y] = [250, 225, 203, 183] ∧ (d.mem.sec1.y1, d.mem.sec1.y2) = (365, 405) := by
  decide +kernel

/-- Section 4.6's profile and Event Rules, read from their bytes. -/
theorem test_tables_read :
    readProfile profImg .h2 = ⟨3, 7, 64, 24, 4, 32, 20, 128, 500⟩ ∧
      readRules rulesImg = ⟨6, 64, 48, 48, 150, 600, 3, 3000, 20000, 24⟩ ∧
      (readChannelMap chanImg).stall = 1000 ∧ (readBand bandImg .b0).vShift = 8 := by
  decide +kernel

/-- Section 4.6: the trigger at triad t, its test met exactly, and the STA at t + 1. -/
theorem test_trigger_of_the_worked_sequence :
    let p : Profile := ⟨3, 7, 64, 24, 4, 32, 20, 128, 500⟩
    let a := detectorTurn p 2500 ⟨.idle, 100, 100, false, 0, 0, 0⟩
    a = (⟨.on, 400, 100, false, 0, 1, 100⟩, .trigger 100) ∧
      detectorTurn p 5625 a.1 = (⟨.on, 1053, 100, false, 0, 2, 100⟩, .quiet) := by
  decide +kernel

/-- R185: a Band Table byte of 0x68, and the shift of 31 clamped to 30 and counted once. -/
theorem test_band_byte_and_shift_clamp :
    let img := (List.replicate 96 (0 : Byte)).set 32 0x68 |>.set 33 0x1F
    (readBand img .b1).enable = true ∧ (readBand img .b1).vEnable = true ∧ (readBand img .b1).hEnable = false ∧
      (readBand img .b1).vShift = 8 ∧ (clampBandTable img).count = 1 ∧ (clampBandTable img).img.getD 33 0 = 0x1E := by
  decide +kernel

/-- Section 5.1, cases B and C of the four searches. -/
theorem test_back_search_cases :
    let ring := fun (vs : List Nat) => vs.mapIdx (fun i v => entryOf (96 + i) v 0 0)
    backSearch (ring [100, 100, 150, 400]) .v 100 32 20 100 = (99, false) ∧
      backSearch (ring [260, 450, 700, 900]) .v 100 32 4 100 = (96, true) := by
  decide +kernel

/-! ### One step of each command -/

/-- R17: everything back at its reset value, the straps as sampled. -/
theorem test_fullReset :
    afterStep (.fullReset 2) armed (fun t => (t.tables.picker, t.tables.valid.chan, t.link.rate)) =
      some (.disarmed, false, 2) := by
  decide +kernel

/-- R1, R9: a byte that begins no sync pair is discarded and counted; a low stop bit with the line high again behind it
brings no wait. -/
theorem test_rxByte_stray :
    afterStep (.rxByte .sp 0x12 .low true) State.reset
      (fun t => (t.sp.held, t.status.counters.bytesSkipped, t.sp.waitHigh)) = some ([], 1, false) := by
  decide +kernel

/-- R1: while the line stays low nothing is delivered until the line has been high. -/
theorem test_rxByte_line_low :
    afterStep (.rxByte .lp 0x12 .high false) (State.reset.setFramer .lp ⟨.hunt, 0, [], none, true⟩)
      (fun t => t.status.counters.bytesSkipped) = some 0 := by
  decide +kernel

/-- Section 1.2's frame on the Sensor port brings LOCKED and is relayed. -/
theorem test_frameReceived_good :
    afterStep (.frameReceived .sp) (withFramer .sp .hunt 0 [0xC9, 0x36, 0x10, 0x00, 0x60, 0x0E] State.reset)
      (fun t => (t.sp.lock, t.sp.held, t.link.forwardQ)) =
      some (.locked, [], [[0xC9, 0x36, 0x10, 0x00, 0x60, 0x0E]]) := by
  decide +kernel

/-- R9: a failed candidate of 12 bytes in HUNT holds a good frame, which is relayed; the two bytes behind it are wrong
first bytes. -/
theorem test_frameReceived_rescan :
    afterStep (.frameReceived .sp) (withFramer .sp .hunt 0
        [0xC9, 0x36, 0x11, 0x06, 0xC9, 0x36, 0x10, 0x00, 0x60, 0x0E, 0x00, 0x00] State.reset)
      (fun t => (t.sp.lock, t.link.forwardQ, t.status.counters.bytesSkipped, flagSet t.status.flags .lostLockSp)) =
      some (.hunt, [[0xC9, 0x36, 0x10, 0x00, 0x60, 0x0E]], 6, true) := by
  decide +kernel

/-- R11: the third CRC error in a row brings HUNT and LOST_LOCK_LP. -/
theorem test_frameReceived_third_bad :
    afterStep (.frameReceived .lp) (withFramer .lp .locked 2 [0xC9, 0x36, 0x10, 0x00, 0x60, 0x0F] State.reset)
      (fun t => (t.lp.lock, t.lp.run, t.status.counters.crcErrors, flagSet t.status.flags .lostLockLp)) =
      some (.hunt, 0, 1, true) := by
  decide +kernel

/-- R12: a lone 0xC9 in LOCKED that times out is one CRC error. -/
theorem test_byteTimeout_locked :
    afterStep (.byteTimeout .sp) (withByteTimer .sp 5 (withFramer .sp .locked 1 [0xC9] State.reset))
      (fun t => (t.sp.lock, t.sp.run, t.status.counters.crcErrors, t.status.counters.bytesSkipped)) =
      some (.hunt, 0, 1, 0) := by
  decide +kernel

/-- Between steps 4 and 5 of section 2.4's sequence, N expecting 2,063,000, with a copy of four samples at a time. -/
def flowing (start : Nat) : State :=
  { armed with asm := { armed.asm with
    inbox := [.copy ⟨11, 3, start, [1, 2, 3, 4]⟩]
    phase := .aligned 4 2020000
    comps := ⟨⟨some ⟨2080000, ⟨4, false⟩⟩, [⟨2060000, 3, false, false⟩, ⟨2070000, 4, false, false⟩]⟩,
      ⟨some ⟨2063000, ⟨4, false⟩⟩, []⟩, ⟨some ⟨2058500, ⟨4, false⟩⟩, []⟩⟩ } }

/-- Section 2.4, step 5: D = 20,000, G = 2, bridged, E_N = 2,123,000 and six samples. -/
theorem test_sampleCopyTaken_bridge :
    afterStep .sampleCopyTaken (flowing 2083000)
      (fun t => (t.asm.comps.n.anchor.map (fun a => a.expected),
        t.asm.comps.n.buffer.map (fun x => (x.time, x.value, x.bridged)), t.status.counters.bridges)) =
      some (some 2123000, [(2063000, 4, true), (2073000, 4, true), (2083000, 1, false), (2093000, 2, false),
        (2103000, 3, false), (2113000, 4, false)], 1) := by
  decide +kernel

/-- R30: a gap past the bridge limit empties every buffer and anchors the frame's own component. -/
theorem test_sampleCopyTaken_long_gap :
    afterStep .sampleCopyTaken (flowing 2200000)
      (fun t => (t.asm.phase, t.asm.comps.z.buffer.length, t.asm.comps.n.buffer.length, t.status.counters.longGaps,
        t.engine.notices)) =
      some (.unsynced, 0, 4, 1, [⟨.gap, 0⟩]) := by
  decide +kernel

/-- R29: a malformed frame of a mapped channel is a long gap. -/
theorem test_malformedNoticeTaken :
    afterStep .malformedNoticeTaken { armed with asm := { armed.asm with inbox := [.malformed 10] } }
      (fun t => (t.status.counters.longGaps, t.bank.notices, t.asm.inbox)) = some (1, [⟨.gap, 0⟩], []) := by
  decide +kernel

/-- R36: the timer stops, STALL is latched and INGRESS_STALL holds. -/
theorem test_stallTimerExpiry :
    afterStep (.stallTimerExpiry .n)
      { armed with asm := { armed.asm with stall := .all ⟨some 1000, false⟩ } }
      (fun t => (t.asm.stall.n.timer, t.asm.stall.z.timer, t.ingressStall, flagSet t.status.flags .stall)) =
      some (none, some 1000, true, true) := by
  decide +kernel

/-- Three heads, as after step 3 of section 2.4's sequence. -/
def headsReady (index : Nat) : State :=
  { armed with asm := { armed.asm with
    phase := .aligned index 2020000
    comps := ⟨⟨some ⟨2030000, ⟨3, false⟩⟩, [⟨2020000, 3, false, false⟩]⟩,
      ⟨some ⟨2033000, ⟨1, false⟩⟩, [⟨2023000, 1, false, false⟩]⟩,
      ⟨some ⟨2028500, ⟨1, false⟩⟩, [⟨2018500, 1, true, false⟩]⟩⟩ } }

/-- R34: the heads leave as triad 0 at the alignment time. -/
theorem test_triadIssue :
    afterStep .triadIssue (headsReady 0)
      (fun t => (t.bank.inbox, t.asm.phase, t.asm.comps.z.buffer)) =
      some ([⟨0, 2020000, ⟨⟨3, false, false⟩, ⟨1, false, false⟩, ⟨1, true, false⟩⟩⟩], .aligned 1 2020000, []) := by
  decide +kernel

/-- R42: sections with b0 of 1.0 pass the samples; a band that is off has no part in the filtered triad (R40). -/
theorem test_filterTriad :
    afterStep .filterTriad (withTriad (triadOf 5 (-800)) armed)
      (fun t => (t.array.inbox.map (fun x => x.index), t.array.inbox.map (fun x => x.bands.b0.map (fun y => y.z)),
        t.array.inbox.map (fun x => x.bands.b1.isSome))) = some ([5], [some (-800)], [false]) := by
  decide +kernel

/-- B0's detectors IDLE at 100, and a filtered triad of 800 on Z (section 4.6). -/
def arrivalAt (index : Nat) : State :=
  { armed with array := { armed.array with
    inbox := [⟨index, 2020000 + index * 10000, .all false, .all false, ⟨some ⟨800, 0, 0⟩, none, none⟩⟩]
    dets := ⟨⟨.idle, 100, 100, false, 0, 0, 0⟩, ⟨.idle, 100, 100, false, 0, 0, 0⟩, .off, .off, .off, .off⟩ } }

/-- Section 4.6: cfV of 2,500 triggers V0, is counted, and is in the ring. -/
theorem test_detectorTriad :
    afterStep .detectorTriad (arrivalAt 9)
      (fun t => (t.array.dets.v0.state, t.status.counters.triggers, t.array.rings.b0.map (fun e => (e.index, e.cfV)),
        t.engine.inbox.map (fun r => r.triggers))) =
      some (.on, 1, [(9, 2500)], [[⟨.v0, 9, 100⟩]]) := by
  decide +kernel

/-- A trigger of V0 at index 9 with its entry in the ring and a quiet entry before it. -/
def triggered : State :=
  { armed with
    array := { armed.array with rings := ⟨[entryOf 8 100 0 160, entryOf 9 2500 0 800], [], []⟩ }
    engine := { armed.engine with inbox := [resultsAt 9 (entryOf 9 2500 0 800) [⟨.v0, 9, 100⟩] []] } }

/-- R99: the first slot allocated after a reset is slot 0, in MEASURE, with the onset where the search stopped and the
trigger's own entry summed. -/
theorem test_engineTriad_allocates :
    afterStep .engineTriad triggered
      (fun t => (t.engine.ptr, (t.ctx 0).map (fun c => c.state), (t.ctx 0).map (fun c => c.onset),
        (t.ctx 0).map (fun c => c.window.ez))) = some (0, some .measure, some 9, some 2500) := by
  decide +kernel

/-- R115: the engine closes a context whose life count reaches max_event, with cause LIFE. -/
theorem test_engineTriad_closes :
    afterStep .engineTriad (withCtx 3 (ctxOf .coda .v 1 7 (some .p))
        { armed with engine := { armed.engine with inbox := [resultsAt 20001 (entryOf 20001 0 0 0) [] []] } })
      (fun t => (t.poolEmpty, t.arrivals.records)) = some (true,
        [.close ⟨7, .life, 20000, false, false, 0, ⟨false, false, .all false⟩, false, false, some (.all ⟨0, 0⟩)⟩]) := by
  decide +kernel

/-- R47: the sections are cleared. -/
theorem test_gapNoticeFilter :
    afterStep .gapNoticeFilter (withNotices ⟨.gap, 0⟩ { armed with bank := { armed.bank with saturating := true } })
      (fun t => (t.bank.notices, t.bank.saturating)) = some ([], false) := by
  decide +kernel

/-- R55: the two detectors that run enter WARMING, the others stay OFF. -/
theorem test_gapNoticeDetector :
    afterStep .gapNoticeDetector (withNotices ⟨.gap, 0⟩ armed)
      (fun t => (t.array.dets.h0.state, t.array.dets.h0.seedPending, t.array.dets.v1.state, t.array.notices)) =
      some (.warming, true, .off, []) := by
  decide +kernel

/-- R117: the pool is closed with cause GAP. -/
theorem test_gapNoticeEngine :
    afterStep .gapNoticeEngine (withCtx 2 (ctxOf .open_ .v 1 7 (some .p)) (withNotices ⟨.gap, 0⟩ armed))
      (fun t => (t.poolEmpty, t.arrivals.records.length)) = some (true, 1) := by
  decide +kernel

/-- R48: a restart clears the filters as a gap does. -/
theorem test_restartFilter :
    afterStep .restartFilter (withNotices ⟨.restart, 0⟩ armed) (fun t => (t.bank.notices, t.bank.sections.b0)) =
      some ([], .cleared) := by
  decide +kernel

/-- R170: a restart waits for the triads issued before it. -/
theorem test_restartDetector_waits :
    afterStep .restartDetector (withNotices ⟨.restart, 1⟩ armed) (fun t => t.array.notices) =
      some [⟨.restart, 1⟩] := by
  decide +kernel

/-- R113, R118: a candidate becomes a bare INCOMPLETE onset with a new number. -/
theorem test_restartEngine :
    afterStep .restartEngine (withCtx 2 (ctxOf .measure .v 1 0 none) (withNotices ⟨.restart, 0⟩ armed))
      (fun t => (t.poolEmpty, t.engine.counter, t.status.counters.bareOnsets)) = some (true, 1, 1) := by
  decide +kernel

/-- R154: with a triad in progress the commit is FORCE_DUE. -/
theorem test_commitWaitExpiry :
    afterStep .commitWaitExpiry (withTriad (triadOf 0 1) (withCommit (.quietWait 1000 1000) armed))
      (fun t => t.tables.commit) = some (.forceDue 0) := by
  decide +kernel

/-- R154: a gap that waited before the expiry is no reason to wait past the last triad's report, which forces the swap. -/
theorem test_commitWaitExpiry_earlier_gap :
    afterStep .commitWaitExpiry
      (withTriad (triadOf 0 1) (withNotices ⟨.gap, 1⟩ (withCommit (.quietWait 1000 1000) armed)))
      (fun t => (t.tables.commit,
        (report false { t with bank := { t.bank with inbox := [] } }).tables.commit)) =
      some (.forceDue 1, .none) := by
  decide +kernel

/-- R177: an interval of a second has no expiry at 999 ms, and no report is built. -/
theorem test_noiseTimerExpiry_early :
    afterStep .noiseTimerExpiry { armed with status := { armed.status with interval := 1, timer := some 999 } }
      (fun t => (t.status.timer, t.status.slot)) = some (some 999, none) := by
  decide +kernel

/-- R178: the report is formed and the timer starts again. -/
theorem test_noiseTimerExpiry :
    afterStep .noiseTimerExpiry { armed with status := { armed.status with interval := 1, timer := some 1000 } }
      (fun t => (t.status.timer, t.status.slot.map (fun r => (r.picker, r.occupancy)))) =
      some (some 0, some (.running, 0)) := by
  decide +kernel

/-- R14: the oldest frame goes on the idle line. -/
theorem test_upstreamFrameStart :
    afterStep .upstreamFrameStart { armed with link := { armed.link with upstreamQ := [[1], [2]] } }
      (fun t => (t.link.upstreamQ, t.link.spLine.map (fun f => f.bytes))) = some ([[2]], some [1]) := by
  decide +kernel

theorem test_upstreamFrameSent :
    afterStep .upstreamFrameSent { armed with link := { armed.link with spLine := some ⟨[1], .upstream, false, 9⟩ } }
      (fun t => (t.link.spLine, t.status.counters.framesForwarded)) = some (none, 1) := by
  decide +kernel

/-- R15: in HOLD a record waits; a reply goes before it in any mode. -/
theorem test_egressChoice :
    afterStep .egressChoice (withRecords 1 (withReplies 1 armed))
      (fun t => (t.cmd.replies.length, t.arrivals.records.length, t.link.lpLine.map (fun f => f.bytes.getD 2 0))) =
      some (0, 1, some 0x60) := by
  decide +kernel

/-- R171, R172: the departure of the reply that the mark names brings the full reset. -/
theorem test_egressFrameSent_resets :
    afterStep (.egressFrameSent 3) { armed with link := { armed.link with lpLine := some ⟨[1], .reply, true, 0⟩ } }
      (fun t => (t.link.lpLine, t.link.rate, t.tables.picker)) = some (none, 3, .disarmed) := by
  decide +kernel

/-- The result and data of the newest reply. -/
def answer (t : State) : Option (Result × List Byte) := t.cmd.replies.getLast?.map (fun r => (r.result, r.data))

/-- R160, steps 2, 4 and 5. -/
theorem test_commandUndecoded :
    afterStep (.commandUndecoded []) armed (fun t => (t.status.counters.badCommands, t.cmd.replies)) = some (1, []) ∧
      afterStep (.commandUndecoded [7, 0x15, 1]) armed (fun t => t.cmd.replies) =
        some [⟨7, 0x15, .unknown, [], false⟩] := by
  decide +kernel

/-- R163. -/
theorem test_echo :
    afterStep (.echo 7 [1, 2]) armed answer = some (some (.done, [1, 2])) ∧
      afterStep (.echo 7 (List.replicate 251 0)) armed answer = some (some (.malformed, [])) := by
  decide +kernel

/-- R164, R180: the first two bytes of the status block, RUNNING and UNSYNCED, and its 148 bytes padded to 150. -/
theorem test_statusRead :
    afterStep (.statusRead 7 [2]) armed answer = some (some (.done, [1, 0])) ∧
      armed.statusBlock.length = 148 ∧
      (afterStep (.statusRead 7 [150]) armed answer).map (fun a => a.map (fun x => x.2.length)) = some (some 150) := by
  decide +kernel

/-- R165: the flags as they stood, and those named cleared. -/
theorem test_flagsClear :
    afterStep (.flagsClear 7 [0, 0, 4, 1]) (((armed.latch .crcError).latch .swapped).bump .crcErrors 1)
      (fun t => (answer t, t.status.flags, t.status.counters.crcErrors)) =
      some (some (.done, [4, 0, 4]), 0x40000, 0) := by
  decide +kernel

/-- R166, R183: a mask that names no flag is MALFORMED. -/
theorem test_attentionMask :
    afterStep (.attentionMask 7 [0, 0, 4]) armed (fun t => t.status.mask) = some 4 ∧
      afterStep (.attentionMask 7 [16, 0, 0]) armed answer = some (some (.malformed, [])) := by
  decide +kernel

/-- R142: the last byte of the Event Rules is written; one past it is MALFORMED. -/
theorem test_tableWrite :
    afterStep (.tableWrite 7 [3, 31, 9]) armed (fun t => (t.tables.shadow.rules.getD 31 0, t.tables.active.rules.getD 31 0)) =
        some (9, 0) ∧
      afterStep (.tableWrite 7 [3, 31, 9, 9]) armed answer = some (some (.malformed, [])) := by
  decide +kernel

/-- R143: the active image from its start, and 0 past its end. -/
theorem test_tableRead :
    afterStep (.tableRead 7 [0, 0, 0, 3]) armed answer = some (some (.done, [3, 3, 232])) ∧
      afterStep (.tableRead 7 [1, 3, 255, 2]) armed answer = some (some (.done, [0, 0])) := by
  decide +kernel

/-- R144, R148: a commit from DISARMED swaps at once, with every table dirty; an unwritten table refuses it. -/
theorem test_tablesCommit :
    afterStep (.tablesCommit 7 [0, 10]) { State.reset with tables := { TableBank.reset with shadow := legal, written := marks } }
        (fun t => (answer t, t.tables.picker, t.array.dets.v0.state)) =
        some (some (.done, [0, 15, 1]), .running, .warming) ∧
      afterStep (.tablesCommit 7 [0, 10]) State.reset answer = some (some (.unwritten, [])) := by
  decide +kernel

/-- R155. -/
theorem test_commitCancel :
    afterStep (.commitCancel 7 []) (withCommit .nextBoundary armed) (fun t => (answer t, t.tables.commit)) =
        some (some (.done, []), .none) ∧
      afterStep (.commitCancel 7 []) armed answer = some (some (.nothing, [])) := by
  decide +kernel

/-- R156: the guard opens for its own code alone. -/
theorem test_mapGuard :
    afterStep (.mapGuard 7 [1, 41]) (armed.setGuard (some 42)) (fun t => (answer t, t.tables.guard)) =
        some (some (.locked, []), some 42) ∧
      afterStep (.mapGuard 7 [0, 0]) armed answer = some (some (.malformed, [])) := by
  decide +kernel

/-- R167. -/
theorem test_egressMode : afterStep (.egressMode 7 [1]) armed (fun t => t.arrivals.mode) = some .emit := by
  decide +kernel

/-- R137. -/
theorem test_arrivalsFlush :
    afterStep (.arrivalsFlush 7 []) (withRecords 5 armed) (fun t => (answer t, t.arrivals.records, t.arrivals.mode)) =
      some (some (.done, [5]), [], .hold) := by
  decide +kernel

/-- R168: 3,600 seconds is the longest interval. -/
theorem test_reportInterval :
    afterStep (.reportInterval 7 [14, 16]) armed (fun t => (t.status.interval, t.status.timer)) = some (3600, some 0) ∧
      afterStep (.reportInterval 7 [14, 17]) armed answer = some (some (.malformed, [])) := by
  decide +kernel

/-- R169. -/
theorem test_pickerRestart :
    afterStep (.pickerRestart 7 []) (flowing 0) (fun t => (t.asm.phase, t.bank.notices)) =
        some (.unsynced, [⟨.restart, 0⟩]) ∧
      afterStep (.pickerRestart 7 []) State.reset answer = some (some (.nothing, [])) := by
  decide +kernel

/-- R171. -/
theorem test_partReset :
    afterStep (.partReset 7 []) armed (fun t => (t.cmd.resetPending, t.cmd.replies)) =
      some (true, [⟨7, 0x31, .done, [], true⟩]) := by
  decide +kernel

/-! ### Witnesses of premises

One theorem for each statement that has premises, or more: states and operands that meet them, clause by clause, at the
values where clauses begin. -/

theorem witness_IdleStepAdvancesOnlyTimers : armed.pending = [] := rfl

theorem witness_BuiltFrameIsReceivedGood :
    (List.replicate 255 (0xC9 : Byte)).length ≤ 255 ∧ CountersBounded armed ∧ (armed.framer .sp).held = [] ∧
      (armed.framer .sp).waitHigh = false ∧ (armed.framer .lp).held = [] ∧ (armed.framer .lp).waitHigh = false := by
  decide +kernel

theorem witness_RxByteOutsideAFrame :
    let low := State.reset.setFramer .lp ⟨.hunt, 0, [], none, true⟩
    let held := withFramer .sp .locked 2 [0xC9] armed
    ((low.framer .lp).waitHigh = true ∧ false = false) ∧
    (CountersBounded low ∧ FramersBounded low ∧ (low.framer .lp).held = [] ∧ (0x36 : Byte) ≠ 0xC9) ∧
    (CountersBounded held ∧ FramersBounded held ∧ (held.framer .sp).waitHigh = false ∧ (held.framer .sp).held = [0xC9] ∧
      (0x37 : Byte) ≠ 0x36 ∧ (0x37 : Byte) ≠ 0xC9) := by
  decide +kernel

/-- A sync pair alone, and a frame of 255 payload bytes that lacks its last byte. -/
theorem witness_RxByteInsideAFrame :
    (CountersBounded (withFramer .sp .locked 0 [0xC9, 0x36] armed) ∧
      ((withFramer .sp .locked 0 [0xC9, 0x36] armed).framer .sp).held = 0xC9 :: 0x36 :: [] ∧
      ∀ kind len tail, ([] : List Byte) = kind :: len :: tail → tail.length < len.toNat + 2) ∧
    (((withFramer .sp .locked 0 (0xC9 :: 0x36 :: 0 :: 255 :: List.replicate 256 0) armed).framer .sp).held =
        0xC9 :: 0x36 :: (0 :: 255 :: List.replicate 256 0) ∧
      ∀ kind len tail, (0 :: 255 :: List.replicate 256 0 : List Byte) = kind :: len :: tail →
        tail.length < len.toNat + 2) := by
  refine ⟨⟨by decide +kernel, rfl, ?_⟩, rfl, ?_⟩
  · intro kind len tail h
    cases h
  · intro kind len tail h
    cases h
    decide +kernel

/-- Good and bad, in LOCKED with runs of 1 and 2 before, and in HUNT. -/
theorem witness_FrameReceivedJudgesByCrc :
    (∀ run ∈ [0, 1, 2],
      let s := withFramer .sp .locked run (0xC9 :: 0x36 :: 0x10 :: 0 :: ([] ++ [0x60, 0x0F])) armed
      CountersBounded s ∧ FramersBounded s) ∧
    (let s := withFramer .sp .hunt 0 (0xC9 :: 0x36 :: 0x10 :: 0 :: ([] ++ [0x60, 0x0F])) armed;
      FramersBounded s ∧ (s.framer .sp).lock = .hunt ∧ (s.framer .sp).waitHigh = false) ∧
    (0xC9 : Byte) ∉ (0x10 :: 0 :: ([] ++ [0x60, 0x0F]) : List Byte) ∧
    ([] : List Byte).length = (0 : Byte).toNat ∧
    (crc16 [0x10, 0]).toNat = (0x60 : Byte).toNat * 256 + (0x0E : Byte).toNat ∧
    ¬ (crc16 [0x10, 0]).toNat = (0x60 : Byte).toNat * 256 + (0x0F : Byte).toNat := by
  decide +kernel

/-- A SAMPLE payload of channel 10 with one sample, the fewest. -/
def shortSample : List Byte := bytesOf [10, 3, 1, 0, 0, 0, 0, 0, 30, 132, 128, 0, 0, 1]

theorem witness_GoodSensorFrameIsRelayedAndCopied :
    let s := withFramer .sp .locked 0 (buildFrame 0x11 shortSample) armed
    shortSample.length ≤ 255 ∧ CountersBounded s ∧ s.sp.held = buildFrame 0x11 shortSample ∧
      s.tables.valid.chan = true ∧ shortSample.getD 0 0 = s.tables.active.chan.getD 5 0 ∧
      shortSample.length = 11 + 3 * (shortSample.getD 2 0).toNat := by
  decide +kernel

theorem witness_GoodLoggerFrameIsTakenOrRelayed :
    ([] : List Byte).length ≤ 255 ∧ CountersBounded (withFramer .lp .locked 0 (buildFrame 0x40 []) armed) ∧
      (withFramer .lp .locked 0 (buildFrame 0x40 []) armed).lp.held = buildFrame 0x40 [] := by
  decide +kernel

/-- At 4 ms and at 5, in both states, and with the timer stopped. -/
theorem witness_ByteTimeoutAbandonsTheFrame :
    (∀ ms ∈ [4, 5],
      ((withByteTimer .sp ms (withFramer .sp .locked 0 [0xC9] armed)).framer .sp).timer = some ms ∧
      ((withByteTimer .sp ms (withFramer .sp .locked 0 [0xC9] armed)).framer .sp).lock = .locked ∧
      ((withByteTimer .lp ms (withFramer .lp .hunt 0 [0xC9] armed)).framer .lp).timer = some ms ∧
      ((withByteTimer .lp ms (withFramer .lp .hunt 0 [0xC9] armed)).framer .lp).lock = .hunt) ∧
    (armed.framer .sp).timer = none := by
  decide +kernel

theorem witness_EgressChoiceTakesTheFirstSource :
    let f := { armed with link := { armed.link with forwardQ := [[1]] } }
    let r := withReplies 1 armed
    let n := { armed with status := { armed.status with slot := some armed.noiseReport } }
    let a := { withRecords 1 armed with arrivals := { (withRecords 1 armed).arrivals with mode := .emit } }
    (f.link.lpLine = none ∧ f.link.forwardQ = [1] :: []) ∧
    (r.link.lpLine = none ∧ r.link.forwardQ = [] ∧ r.cmd.replies = ⟨1, 1, .done, [], false⟩ :: []) ∧
    (n.link.lpLine = none ∧ n.link.forwardQ = [] ∧ n.cmd.replies = [] ∧ n.status.slot = some armed.noiseReport) ∧
    (a.link.lpLine = none ∧ a.link.forwardQ = [] ∧ a.cmd.replies = [] ∧ a.status.slot = none ∧
      a.arrivals.mode = .emit ∧ a.arrivals.records = aRecord :: []) ∧
    (armed.link.forwardQ = [] ∧ armed.cmd.replies = [] ∧ armed.status.slot = none ∧ armed.arrivals.mode = .hold) := by
  decide +kernel

theorem witness_LinesSendTheirFramesWhole :
    let line := fun f => { armed with link := { armed.link with lpLine := some f, spLine := some f } }
    (armed.link.spLine = none ∧ ({ armed with link := { armed.link with upstreamQ := [[1]] } } : State).link.upstreamQ =
      [1] :: []) ∧
    (line ⟨[1], .forward, false, 0⟩).link.spLine = some ⟨[1], .forward, false, 0⟩ ∧
    (line ⟨[1], .reply, true, 0⟩).link.lpLine = some ⟨[1], .reply, true, 0⟩ ∧
    (line ⟨[1], .forward, false, 0⟩).link.lpLine = some ⟨[1], .forward, false, 0⟩ ∧ Source.reply ≠ .forward ∧
    (line ⟨[1], .forward, false, 0⟩).pending = [] := by
  decide +kernel

theorem witness_SamplesAreTreatedAndPlacedNearest :
    Fits24 (-8388608) ∧ Fits24 8388607 ∧ (1 ≤ (⟨10, true, 8388607⟩ : StreamCfg).clip) ∧
      (⟨10, true, 8388607⟩ : StreamCfg).clip ≤ 8388607 ∧ 0 < 10000 ∧ 10000 % 2 = 0 ∧
      offsetOf 10000 2063000 2068000 = .continuous ∧ offsetOf 10000 2063000 2068001 = .gap 1 ∧
      offsetOf 10000 2063000 2058000 = .continuous ∧ offsetOf 10000 2063000 2057999 = .overlap 1 := by
  decide +kernel

/-- The premises at any start time, and each clause's where it begins or ends: D of −5,000 and 5,000; 5,001 and 44,999;
−5,001 and −34,999; −35,000. -/
theorem witness_UsableFrameIsPlacedOnTheGrid :
    (∀ start ∈ [2058000, 2068000, 2068001, 2107999, 2057999, 2028001, 2028000],
      let s := flowing start
      nextTriad s = none ∧ s.asm.inbox = .copy ⟨11, 3, start, [1, 2, 3, 4]⟩ :: [] ∧ s.asm.phase = .aligned 4 2020000 ∧
        s.streamOf 11 = some .n ∧ 3 = s.chanMap.rate ∧
        (s.asm.comps.get (s.chanMap.component .n)).anchor = some ⟨2063000, ⟨4, false⟩⟩) ∧
    (flowing 0).period = 10000 ∧ (flowing 0).chanMap.bridge = 4 ∧
    (((1 : Nat) : Int) = (5001 + 5000) / 10000 ∧ ((4 : Nat) : Int) = (44999 + 5000) / 10000 ∧
      ((3 : Nat) : Int) = (34999 + 5000) / 10000 ∧ ((4 : Nat) : Int) = (35000 + 5000) / 10000) := by
  decide +kernel

/-- The same in UNSYNCED, with N anchored and its buffer empty. -/
theorem witness_UsableFrame_unsynced :
    let s := { flowing 2068001 with asm := { (flowing 2068001).asm with phase := .unsynced } }
    nextTriad s = none ∧ s.asm.phase = .unsynced ∧ s.streamOf 11 = some .n ∧ 3 = s.chanMap.rate ∧
      (s.asm.comps.get (s.chanMap.component .n)).anchor = some ⟨2063000, ⟨4, false⟩⟩ ∧ s.chanMap.bridge = 4 := by
  decide +kernel

/-- D of 45,000 gives a gap of 5, past the bridge limit of 4. -/
theorem witness_LongGapAnchorsTheFrameThatEndsIt :
    let s := flowing 2108000
    nextTriad s = none ∧ s.asm.inbox = .copy ⟨11, 3, 2108000, [1, 2, 3, 4]⟩ :: [] ∧ [1, 2, 3, 4].length ≤ 64 ∧
      s.streamOf 11 = some .n ∧ 3 = s.chanMap.rate ∧
      (s.asm.comps.get (s.chanMap.component .n)).anchor = some ⟨2063000, ⟨4, false⟩⟩ ∧
      s.chanMap.bridge < (45000 + s.period / 2) / s.period := by
  decide +kernel

/-- The other ground: a buffer of 125 samples that four more would take past 128. -/
theorem witness_LongGap_by_capacity :
    let s := flowing 2063000
    let t := s.setComp .n ⟨some ⟨2063000, ⟨4, false⟩⟩, gridSlots 10000 false 813000 (List.replicate 125 ⟨0, false⟩)⟩
    (t.asm.comps.get (t.chanMap.component .n)).anchor = some ⟨2063000, ⟨4, false⟩⟩ ∧ nextTriad t = none ∧
      128 < (t.asm.comps.get (t.chanMap.component .n)).buffer.length + [1, 2, 3, 4].length := by
  decide +kernel

theorem witness_BadFramesAreLongGaps :
    let s := fun (items : List AsmItem) => ({ armed with asm := { armed.asm with inbox := items } } : State)
    (nextTriad (s [.copy ⟨10, 4, 0, [1]⟩]) = none ∧ (s [.copy ⟨10, 4, 0, [1]⟩]).streamOf 10 = some .z ∧
      4 ≠ (s [.copy ⟨10, 4, 0, [1]⟩]).chanMap.rate) ∧
    (s [.copy ⟨13, 3, 0, [1]⟩]).streamOf 13 = none ∧
    (nextTriad (s [.malformed 12]) = none ∧ (s [.malformed 12]).streamOf 12 = some .e) ∧
    (s [.malformed 13]).streamOf 13 = none := by
  decide +kernel

theorem witness_UsableFrameAnchorsItsComponent :
    let s := { armed with asm := { armed.asm with inbox := [.copy ⟨10, 3, 2000000, [1, 2, 3, 4]⟩] } }
    nextTriad s = none ∧ s.asm.inbox = .copy ⟨10, 3, 2000000, [1, 2, 3, 4]⟩ :: [] ∧ [1, 2, 3, 4].length ≤ 64 ∧
      s.streamOf 10 = some .z ∧ 3 = s.chanMap.rate ∧ s.asm.comps.get (s.chanMap.component .z) = ⟨none, []⟩ := by
  decide +kernel

/-- UNSYNCED with one sample on each component, at three times. -/
def unsyncedAt (z n e : Nat) : State :=
  { armed with asm := { armed.asm with
    comps := ⟨⟨some ⟨z + 10000, ⟨1, false⟩⟩, [⟨z, 1, false, false⟩]⟩,
      ⟨some ⟨n + 10000, ⟨1, false⟩⟩, [⟨n, 1, false, false⟩]⟩,
      ⟨some ⟨e + 10000, ⟨1, false⟩⟩, [⟨e, 1, false, false⟩]⟩⟩ } }

/-- An empty buffer, heads half a period apart, and a head earlier than that, which the trim takes. -/
theorem witness_AlignmentIsJudgedOnTheTrimmedHeads :
    (GridsKept armed ∧ armed.asm.comps.z.buffer = []) ∧
    (GridsKept (unsyncedAt 2020000 2025000 2022000) ∧ GridsKept (unsyncedAt 2020000 2025001 2022000)) ∧
    (unsyncedAt 2020000 2025000 2022000).asm.phase = .unsynced ∧
    (armed.period = 10000 ∧ 2025000 ≤ 2020000 + 10000 / 2 ∧ ¬ 2025001 ≤ 2020000 + 10000 / 2) := by
  refine ⟨⟨?_, ?_⟩, ⟨?_, ?_⟩, ?_, ?_⟩ <;> decide +kernel

/-- Heads that the trim leaves further apart than half a period: Z's next sample lies that much past the latest head. -/
def mismatched : State :=
  { armed with asm := { armed.asm with
    comps := ⟨⟨some ⟨2032000, ⟨1, false⟩⟩, [⟨2012000, 1, false, false⟩, ⟨2022000, 1, false, false⟩]⟩,
      ⟨some ⟨2027000, ⟨1, false⟩⟩, [⟨2007000, 1, false, false⟩, ⟨2017000, 1, false, false⟩]⟩,
      ⟨some ⟨2028000, ⟨1, false⟩⟩, [⟨2018000, 1, false, false⟩]⟩⟩ } }

theorem witness_Alignment_mismatch :
    GridsKept mismatched ∧ mismatched.asm.phase = .unsynced ∧
      (heads (mismatched.asm.comps.map (trimBuffer 5000 2018000))).map headTimes =
        some ⟨2022000, 2017000, 2018000⟩ := by
  refine ⟨?_, ?_, ?_⟩ <;> decide +kernel

/-- Index 2^48 − 2 has a next index and 2^48 − 1 has none; a commit is pending with nothing in progress, and with one. -/
theorem witness_TriadLeavesFromTheThreeHeads :
    (∀ k ∈ [0, 2 ^ 48 - 2, 2 ^ 48 - 1],
      let s := headsReady k
      s.asm.phase = .aligned k 2020000 ∧ s.tables.picker = .running ∧ s.asm.comps.z.buffer.length = 1 ∧
        s.asm.comps.n.buffer.length = 1 ∧ s.asm.comps.e.buffer.length = 1 ∧ s.tables.commit = .none) ∧
    2 ^ 48 - 2 + 1 < 2 ^ 48 ∧ 2 ^ 48 ≤ 2 ^ 48 - 1 + 1 ∧
    (let s := withCommit (.forceDue 0) (headsReady 0);
      s.tables.commit ≠ .none ∧ s.inProgress = 0 ∧ s.engine.notices = []) ∧
    (let s := withTriad (triadOf 0 1) (withCommit .nextBoundary (headsReady 1));
      s.tables.commit ≠ .none ∧ s.inProgress ≠ 0) ∧
    (let s := withNotices ⟨.gap, 0⟩ (withCommit (.quietWait 1000 0) (headsReady 0));
      s.tables.commit ≠ .none ∧ s.inProgress = 0 ∧ s.engine.notices ≠ []) := by
  refine ⟨?_, ?_, ?_, ?_, ?_, ?_⟩ <;> decide +kernel

/-- At the stall limit of section 2.1's map, a millisecond before it, and with the timer stopped. -/
theorem witness_StallExpiryAwaitsAllChannels :
    (∀ ms ∈ [999, 1000],
      let s := { armed with asm := { armed.asm with stall := .all ⟨some ms, false⟩ } }
      (s.asm.stall.get .n).timer = some ms) ∧
    (999 < armed.chanMap.stall ∧ armed.chanMap.stall ≤ 1000) ∧ (armed.asm.stall.get .n).timer = none := by
  decide +kernel

/-- Coefficients and memory at the ends of 24 bits. -/
theorem witness_SectionRoundsTheExactSumToNearest :
    let k : Coeffs := ⟨-8388608, 8388607, -8388608, 8388607, 8388607⟩
    let m : Section := ⟨8388607, -8388608, -8388608, -8388608⟩
    (Fits24 k.b0 ∧ Fits24 k.b1 ∧ Fits24 k.b2 ∧ Fits24 k.a1 ∧ Fits24 k.a2) ∧
      (Fits24 m.x1 ∧ Fits24 m.x2 ∧ Fits24 m.y1 ∧ Fits24 m.y2) ∧ Fits24 (-8388608) := by
  decide +kernel

/-- No notice, and one that a triad is before. -/
theorem witness_FilterTriadRunsBothSections :
    (withTriad (triadOf 5 1) armed).bank.inbox = triadOf 5 1 :: [] ∧
    (∀ n ns, (withTriad (triadOf 5 1) armed).bank.notices = n :: ns → n.ahead ≠ 0) ∧
    ∀ n ns, (withTriad (triadOf 5 1) (withNotices ⟨.gap, 1⟩ armed)).bank.notices = n :: ns → n.ahead ≠ 0 := by
  refine ⟨rfl, fun n ns h => ?_, fun n ns h => ?_⟩
  · have h' : [] = n :: ns := h
    cases h'
  · have h' : [(⟨.gap, 1⟩ : Notice)] = n :: ns := h
    cases h'
    decide

theorem witness_CfsAndAveragesAreExact :
    (Fits24 (-8388607) ∧ (-8388607 : Int) ≠ -8388608) ∧ (Fits24 (-8388608) ∧ ¬ ((-8388608 : Int) = -8388608 ∧
      (8388607 : Int) = -8388608)) ∧ (100 ≤ 108) ∧ (100 ≤ 100) ∧ 99 < 100 := by
  decide +kernel

/-- The nine cases with the profile of section 4.6, each test at its limit and just past it. -/
theorem witness_DetectorActsByItsState :
    let p : Profile := ⟨3, 7, 64, 24, 4, 32, 20, 128, 500⟩
    let idle : Detector := ⟨.idle, 100, 100, false, 0, 0, 0⟩
    let on : Nat → Detector := fun n => ⟨.on, 155, 100, false, 0, n, 100⟩
    (Detector.off.state = .off ∧ Detector.warm.state = .warming ∧ Detector.warm.seedPending = true) ∧
    (1 < (⟨.warming, 1, 1, false, 2, 0, 0⟩ : Detector).countdown ∧
      (⟨.warming, 1, 1, false, 1, 0, 0⟩ : Detector).countdown = 1) ∧
    (average idle.sta p.ks 2500 * 16 ≥ max idle.lta p.floor * p.thrOn ∧
      average idle.sta p.ks 2499 * 16 < max idle.lta p.floor * p.thrOn) ∧
    (average 155 p.ks 100 * 16 ≤ (on 23).lh * p.thrOff ∧ (on 22).lh * p.thrOff < average 163 p.ks 100 * 16 ∧
      (on 499).onCount < p.maxOn ∧ p.maxOn ≤ (on 500).onCount) := by
  decide +kernel

theorem witness_DetectorTriadHandsOnItsResults :
    BuffersBounded (arrivalAt 9) ∧ (arrivalAt 9).array.inbox.length = 1 ∧ (arrivalAt 9).array.notices = [] ∧
      (∀ r ∈ (arrivalAt 9).engine.inbox, r.triggers = []) ∧ (∃ r ∈ triggered.engine.inbox, r.triggers ≠ []) := by
  refine ⟨?_, ?_, ?_, ?_, ?_⟩ <;> decide +kernel

/-- A search that stops at a quiet entry, and one that the ring ends. -/
theorem witness_BackSearchStopsAtTheLastQuietEntry :
    searchOnset triggered ⟨.v0, 9, 100⟩ = ⟨9, 0, false⟩ ∧
      searchOnset { triggered with array := { triggered.array with
        rings := ⟨[entryOf 7 900 0 1, entryOf 8 900 0 1, entryOf 9 2500 0 1], [], []⟩ } } ⟨.v0, 9, 100⟩ =
        ⟨7, 2, true⟩ := by
  decide +kernel

/-- An onset 3 triads away merges and one 4 away does not. -/
theorem witness_MergeGoesToTheNearestMatchingOnset :
    mergeTarget (withCtx 2 (ctxOf .open_ .v 12 7 (some .p)) armed) .v 9 = some 2 ∧
      mergeTarget (withCtx 2 (ctxOf .open_ .v 12 7 (some .p)) armed) .v 8 = none ∧
      mergeTarget (withCtx 2 (ctxOf .open_ .v 12 7 (some .p)) armed) .h 12 = none := by
  decide +kernel

/-- Section 5.6's first two entries, of which the second qualifies, into a V and into an H candidate. -/
theorem witness_WindowSumsItsEntries :
    let es := [entryOf 0 351 78 300, entryOf 1 1600 195 (-640)]
    let v := newContext ⟨.v0, 1, 100⟩ ⟨0, 1, false⟩ 0
    let h := newContext ⟨.h0, 1, 100⟩ ⟨0, 1, false⟩ 0
    es.length ≤ 64 ∧ (∀ e ∈ es, e.cfV ≤ max32 ∧ e.cfH ≤ max32) ∧
      (∀ e ∈ es, 100 * (readRules rulesImg).fmFactor ≤ e.cfV * 16 → e.yZ ≠ 0) ∧
      (v.window = ⟨0, 0, 0, .pending, false⟩ ∧ v.lh = some 100 ∧ v.clip = .all false ∧ v.bridged = false) ∧
      (h.window = ⟨0, 0, 0, .absent, false⟩ ∧ h.clip = .all false ∧ h.bridged = false) := by
  decide +kernel

theorem witness_WindowIsClassifiedByItsEnergies :
    16 ≤ ({ readRules rulesImg with pRatio := 16 } : Rules).pRatio ∧ 16 ≤ (readRules rulesImg).sRatio := by
  decide +kernel

/-- The counter at its top, with number 1 held: the next is 2. -/
theorem witness_EventNumberIsTheNextNotHeld :
    let s := (withCtx 0 (ctxOf .open_ .v 12 1 (some .p)) armed).setCounter 65535
    s.engine.counter ≤ 65535 ∧ s.freshNumber = 2 := by
  decide +kernel

theorem witness_EngineTriadTakesContextsThenTriggers :
    triggered.engine.inbox = resultsAt 9 (entryOf 9 2500 0 800) [⟨.v0, 9, 100⟩] [] :: [] ∧
    (∀ n ns, triggered.engine.notices = n :: ns → n.ahead ≠ 0) ∧
    (withNotices ⟨.gap, 0⟩ triggered).engine.notices = ⟨.gap, 0⟩ :: [] := by
  refine ⟨rfl, fun n ns h => ?_, rfl⟩
  have h' : [] = n :: ns := h
  cases h'

theorem fullPool_ctx (c : Context) (s : State) (i : Fin 8) : (fullPool c s).ctx i = some c :=
  Vector.getElem_replicate i.isLt

/-- A match; a FREE slot; no FREE slot with CODA contexts, the oldest in slot 0; and no FREE slot with none in CODA. -/
theorem witness_TriggerIsMergedAllocatedOrBare :
    (mergeTarget (withCtx 2 (ctxOf .open_ .v 12 7 (some .p)) triggered) .v 9 = some 2 ∧
      (withCtx 2 (ctxOf .open_ .v 12 7 (some .p)) triggered).ctx 2 = some (ctxOf .open_ .v 12 7 (some .p))) ∧
    (mergeTarget triggered .v 9 = none ∧ triggered.ctx (triggered.engine.ptr + 1 + 0) = none ∧
      (resultsAt 9 (entryOf 9 2500 0 800) [] []).time = 2020000 + 9 * triggered.period) ∧
    (mergeTarget (fullPool (ctxOf .coda .v 500 7 (some .p)) triggered) .v 9 = none ∧
      (∀ i, (fullPool (ctxOf .coda .v 500 7 (some .p)) triggered).ctx i ≠ none) ∧
      ∀ j d, (fullPool (ctxOf .coda .v 500 7 (some .p)) triggered).ctx j = some d → d.state = .coda → j ≠ 0 →
        500 < d.onset ∨ (500 = d.onset ∧ 0 < j)) ∧
    (mergeTarget (fullPool (ctxOf .measure .v 500 0 none) triggered) .v 9 = none ∧
      ∀ i c, (fullPool (ctxOf .measure .v 500 0 none) triggered).ctx i = some c → c.state ≠ .coda) := by
  refine ⟨⟨?_, ?_⟩, ⟨?_, ?_, ?_⟩, ⟨?_, ?_, ?_⟩, ?_, ?_⟩
  · decide +kernel
  · rfl
  · decide +kernel
  · decide +kernel
  · decide +kernel
  · decide +kernel
  · intro i
    rw [fullPool_ctx]
    simp
  · intro j d h _ hj
    rw [fullPool_ctx] at h
    cases h
    exact .inr ⟨rfl, Fin.pos_of_ne_zero hj⟩
  · decide +kernel
  · intro i c h
    rw [fullPool_ctx] at h
    cases h
    decide

/-- A window of 6 triads from onset 5 is not complete at 9, and is at 10. -/
theorem witness_AllocationStartsTheMeasurement :
    1 ≤ triggered.rules.fmWindow ∧ 9 + 1 < 5 + triggered.rules.fmWindow ∧ 5 + triggered.rules.fmWindow ≤ 10 + 1 := by
  decide +kernel

/-- A context at onset 10: in MEASURE at triads 14, 15 and 16, in OPEN at 615 and 616, in CODA with 2,998 and 2,999 quiet
triads behind it, and held back by a detector that is ON. -/
theorem witness_ContextsActOnATriadByTheirState :
    (∀ st ∈ [CtxState.measure, .open_, .coda],
      (withCtx 4 (ctxOf st .v 10 7 none) armed).ctx 4 = some (ctxOf st .v 10 7 none) ∧
      (ctxOf st .v 10 7 none).state = st) ∧
    (resultsAt 14 (entryOf 14 0 0 0) [] []).bands.get .b0 = some (outOf (entryOf 14 0 0 0)) ∧
    (14 < 10 + armed.rules.fmWindow - 1 ∧ 15 = 10 + armed.rules.fmWindow - 1) ∧
    (615 < 10 + armed.rules.sMax + armed.rules.fmWindow ∧ 10 + armed.rules.sMax + armed.rules.fmWindow ≤ 616) ∧
    (2998 + 1 < armed.rules.codaHold ∧ armed.rules.codaHold ≤ 2999 + 1) ∧
    ((⟨true, false, false⟩ : PerBand Bool).get Det.v0.band = true ∧
      ({ detStates with v0 := .on } : PerDet DetState).get .v0 = .on) := by
  refine ⟨?_, ?_, ?_, ?_, ?_, ?_⟩ <;> decide +kernel

/-- The ends of the S window, s_min 150 and s_max 600 behind onset 10. -/
theorem witness_ParentIsTheOldestWithTheOnsetInItsWindow :
    let s := withCtx 2 (ctxOf .open_ .v 10 7 (some .p)) armed
    parentOf s 5 160 = some 2 ∧ parentOf s 5 610 = some 2 ∧ parentOf s 5 159 = none ∧ parentOf s 5 611 = none ∧
      parentOf s 2 160 = none := by
  decide +kernel

/-- Candidates of each class, with a parent that waits for S, with one that has it, and without one. -/
theorem witness_CandidateIsResolvedByClassAndParent :
    let cand := fun ez eh => ({ ctxOf .measure .h 160 0 none with window := ⟨ez, eh, 6, .absent, false⟩ } : Context)
    let waits := ctxOf .open_ .v 10 7 (some .p)
    let filled := { ctxOf .coda .v 10 7 (some .p) with
      sPart := some ⟨90, 0, 0, ⟨true, false, false⟩, 1, 3, false, false, .all false⟩ }
    (∀ c ∈ [cand 48 16, cand 16 48, cand 1 1], (withCtx 5 c armed).ctx 5 = some c ∧ parentOf (withCtx 5 c armed) 5 160 = none) ∧
    classify armed.rules .h (cand 48 16).window = .p ∧ classify armed.rules .h (cand 16 48).window = .s ∧
    classify armed.rules .h (cand 1 1).window = .u ∧
    (∀ p ∈ [waits, filled],
      let s := withCtx 2 p (withCtx 5 (cand 16 48) armed)
      s.ctx 5 = some (cand 16 48) ∧ parentOf s 5 160 = some 2 ∧ s.ctx 2 = some p) ∧
    waits.sPart = none ∧ filled.sPart ≠ none := by
  intro cand waits filled
  refine ⟨?_, ?_, ?_, ?_, ?_, ?_, ?_⟩ <;> decide +kernel +revert

/-- An OPEN context, and 16 records queued under a watermark of 24. -/
theorem witness_ClosuresReportTheContextsAndFreeThem :
    let s := withRecords 16 (fullPool (ctxOf .open_ .v 10 7 (some .p)) armed)
    CountersBounded s ∧ (∀ i c, s.ctx i = some c → c.state ≠ .measure) ∧
      s.arrivals.records.length + 8 ≤ min s.rules.watermark 32 := by
  refine ⟨by decide +kernel, fun i c h => ?_, by decide +kernel⟩
  have h' : (fullPool (ctxOf .open_ .v 10 7 (some .p)) armed).ctx i = some c := h
  rw [fullPool_ctx] at h'
  cases h'
  decide

/-- Notices of both kinds that are due and that are not, with and without triggers before the engine, and with a commit
that is pending or not. -/
theorem witness_NoticesRestartThePickingBlocks :
    (∀ k ∈ [NoticeKind.gap, .restart], ∀ ahead ∈ [0, 1],
      let s := withNotices ⟨k, ahead⟩ armed
      s.bank.notices = ⟨k, ahead⟩ :: [] ∧ s.array.notices = ⟨k, ahead⟩ :: [] ∧ s.engine.notices = ⟨k, ahead⟩ :: [] ∧
        (∀ r ∈ s.engine.inbox, r.triggers = []) ∧ s.tables.commit = .none) ∧
    (∃ r ∈ (withNotices ⟨.gap, 0⟩ triggered).engine.inbox, r.triggers ≠ []) ∧
    (withCommit (.forceDue 0) triggered).inProgress ≠ 0 ∧
    (let s := withNotices ⟨.restart, 0⟩ (withCommit (.forceDue 0) armed);
      s.engine.notices = ⟨.restart, 0⟩ :: [] ∧ s.tables.commit = .forceDue 0 ∧ s.inProgress = 0) := by
  refine ⟨?_, ?_, ?_, ?_⟩ <;> decide +kernel

/-- Occupancies of 23, 24, 31 and 32 under a watermark of 24. -/
theorem witness_RecordIsAdmittedByTheOccupancy :
    (let s := withRecords 23 armed;
      s.arrivals.records.length < s.rules.watermark ∧ s.arrivals.records.length < 32) ∧
    (∀ n ∈ [24, 31],
      let s := withRecords n armed
      s.rules.watermark ≤ s.arrivals.records.length ∧ s.arrivals.records.length < 32) ∧
    32 ≤ (withRecords 32 armed).arrivals.records.length := by
  refine ⟨?_, ?_, ?_⟩ <;> decide +kernel

/-- A frame behind in the inbox; offsets and lengths at the ends of the Channel Map; a pending commit; a closed guard. -/
theorem witness_ShadowTablesAreWrittenAndRead :
    let s := { armed with cmd := { armed.cmd with inbox := [[7, 0x10, 0, 31, 9], [8]] } }
    (TablesSized s ∧ Ready (.tableWrite 7 [0, 31, 9]) s ∧ Table.ofNumber 0 = some .chan ∧ 31 + 1 ≤ Table.chan.size ∧
      s.tables.commit = .none ∧ s.tables.guard = none) ∧
    (Ready (.tableWrite 7 [0, 31, 9, 9]) armed ∧ Table.chan.size < 31 + 2) ∧
    (Ready (.tableWrite 7 [0, 0, 1]) (withCommit .nextBoundary armed) ∧
      (withCommit .nextBoundary armed).tables.commit ≠ .none) ∧
    (Ready (.tableWrite 7 [0, 0, 1]) (armed.setGuard (some 42)) ∧ (armed.setGuard (some 42)).tables.guard ≠ none) ∧
    (Ready (.tableRead 7 [1, 3, 255, 128]) armed ∧ (1 : Byte).toNat ≤ 1 ∧ Table.ofNumber (3 : Byte).toNat = some .rules ∧
      (128 : Byte).toNat ≤ 128) ∧
    (Ready (.tableRead 7 [2, 3, 0, 1]) armed ∧ 2 ≤ (2 : Byte).toNat) := by
  intro s
  refine ⟨⟨?_, ?_, ?_, ?_, ?_, ?_⟩, ⟨?_, ?_⟩, ⟨?_, ?_⟩, ⟨?_, ?_⟩, ⟨?_, ?_, ?_, ?_⟩, ?_, ?_⟩ <;> decide +kernel +revert

/-- Images in range already, and images of zeros. -/
theorem witness_ClampingBringsEveryFieldIntoRange :
    ImagesSized legal ∧ InRange legal ∧ ImagesSized .zeros := by
  refine ⟨by decide +kernel, ⟨by decide +kernel, fun b => ?_, fun d => ?_, by decide +kernel⟩, by decide +kernel⟩
  · cases b <;> decide +kernel
  · cases d <;> decide +kernel

/-- RUNNING, with a shadow in which the rules, the bands or two ids differ; DISARMED with every table written; and the
same with a triad in progress. -/
theorem witness_CommitIsCheckedClampedAndStarted :
    let with_ := fun (sh : PerTable (List Byte)) => { armed with tables := { armed.tables with shadow := sh } }
    let rules := with_ { legal with rules := rulesImg.set 11 4 }
    let bands := with_ { legal with band := bandImg.set 1 9 }
    (∀ c ∈ [[0x02, 0x59], [0x02, 0x58], [0, 0]], Ready (.tablesCommit 7 c) armed) ∧
    600 < (0x02 : Byte).toNat * 256 + (0x59 : Byte).toNat ∧ (0x02 : Byte).toNat * 256 + (0x58 : Byte).toNat ≤ 600 ∧
    (withCommit (.forceDue 0) armed).tables.commit ≠ .none ∧ ¬ State.reset.tables.written = ⟨true, true, true, true⟩ ∧
    duplicateIds (chanImg.set 10 10) = true ∧ duplicateIds chanImg = false ∧
    (rules.tables.written = ⟨true, true, true, true⟩ ∧ tableDirty rules .band = false ∧ tableDirty rules .chan = false ∧
      rules.inProgress = 0 ∧ (withTriad (triadOf 0 1) rules).inProgress ≠ 0) ∧
    (tableDirty bands .band = true ∧ bands.tables.picker = .running ∧ bands.inProgress = 0) ∧
    (∀ i, bands.ctx i = none) ∧ (withCtx 2 (ctxOf .open_ .v 10 7 (some .p)) bands).ctx 2 ≠ none := by
  intro with_ rules bands
  refine ⟨?_, ?_, ?_, ?_, ?_, ?_, ?_, ⟨?_, ?_, ?_, ?_, ?_⟩, ⟨?_, ?_, ?_⟩, ?_, ?_⟩ <;> decide +kernel +revert

/-- The Channel Map unchanged, changed, and not yet valid. -/
theorem witness_SwapsActivateTheShadowTables :
    (armed.tables.valid.chan = true ∧ armed.tables.shadow.chan = armed.tables.active.chan) ∧
    chanImg.set 4 1 ≠ chanImg ∧ State.reset.tables.valid.chan = false ∧
    ∃ dets : PerDet Detector, ∀ d, dets.get d =
      (if (readBand bandImg d.band).enable = true ∧
          (match d.kind with
            | .v => (readBand bandImg d.band).vEnable
            | .h => (readBand bandImg d.band).hEnable) = true
        then ⟨.warming, 0, 0, true, 0, 0, 0⟩ else ⟨.off, 0, 0, false, 0, 0, 0⟩) := by
  refine ⟨by decide +kernel, by decide +kernel, by decide +kernel,
    ⟨.warm, .warm, .off, .off, .off, .off⟩, fun d => ?_⟩
  cases d <;> decide +kernel

/-- A millisecond before the limit and at it, with a triad in progress and without; and each commit state at a report. -/
theorem witness_ReportsAndExpiryTakeTheWaitingSwap :
    (∀ e ∈ [9999, 10000],
      let s := withCommit (.quietWait 10000 e) armed
      (s.tables.commit = .quietWait 10000 e ∧ s.inProgress = 0 ∧ (∀ i, s.ctx i = none)) ∧
      ((withTriad (triadOf 0 1) s).inProgress ≠ 0 ∧
        (withCtx 2 (ctxOf .open_ .v 10 7 (some .p)) s).ctx 2 ≠ none)) ∧
    ((withCommit .nextBoundary armed).tables.commit = .nextBoundary ∧ (withCommit .nextBoundary armed).inProgress = 0) ∧
    ((withCommit (.forceDue 0) armed).tables.commit = .forceDue 0 ∧ (withCommit (.forceDue 0) armed).inProgress = 0 ∧
      (withCommit (.forceDue 0) armed).engine.notices = []) ∧
    (∀ earlier ∈ [0, 1],
      let s := withNotices ⟨.gap, 0⟩ (withCommit (.forceDue earlier) armed)
      s.tables.commit = .forceDue earlier ∧ s.inProgress = 0 ∧ s.engine.notices.length = 1) := by
  decide +kernel

theorem witness_CancelAndGuardAnswerByTheirState :
    (Ready (.commitCancel 7 []) armed ∧ armed.tables.commit = .none) ∧
    (Ready (.commitCancel 7 []) (withCommit (.forceDue 0) armed) ∧ (withCommit (.forceDue 0) armed).tables.commit ≠ .none) ∧
    (∀ op ∈ [0, 1, 2], ∀ code ∈ [0, 42], Ready (.mapGuard 7 [op, code]) armed ∧
      Ready (.mapGuard 7 [op, code]) (armed.setGuard (some 42))) ∧
    armed.tables.guard = none ∧ (armed.setGuard (some 42)).tables.guard = some 42 := by
  refine ⟨?_, ?_, ?_, ?_, ?_⟩ <;> decide +kernel

/-- Parameters one byte longer, and one shorter, than the form of a command. -/
theorem witness_CommandsAreJudgedInOrder_form :
    (Ready (.statusRead 7 [1, 2]) armed ∧ [1, 2].length ≠ 1) ∧ (Ready (.flagsClear 7 [0, 0, 0]) armed ∧ [0, 0, 0].length ≠ 4) ∧
      (Ready (.partReset 7 [0]) armed ∧ [0].length ≠ 0) := by
  decide +kernel

/-- A row in its turn and one that is not; a reset pending; no tag; a full Reply Queue; a tag alone; an unknown code. -/
theorem witness_CommandsAreJudgedInOrder :
    (∀ p ∈ [[], [7], [7, 0x15]], wellFormed (.commandUndecoded p) = true ∧
      encodePayload (.commandUndecoded p) = some p ∧ Ready (.commandUndecoded p) armed) ∧
    (let s := { armed with cmd := { armed.cmd with inbox := [[8]] } };
      ¬ (s.cmd.inbox = [] ∨ s.cmd.inbox.head? = some [7])) ∧
    ({ armed with cmd := { armed.cmd with resetPending := true } } : State).cmd.resetPending = true ∧
    (withReplies 3 armed).cmd.replies.length < 4 ∧ 4 ≤ (withReplies 4 armed).cmd.replies.length := by
  refine ⟨?_, ?_, ?_, ?_, ?_⟩ <;> decide +kernel

theorem witness_EchoAndStatusReadAnswerTheirData :
    (Ready (.echo 7 (List.replicate 250 0)) (withReplies 3 armed) ∧ (List.replicate 250 (0 : Byte)).length ≤ 250 ∧
      250 < (List.replicate 251 (0 : Byte)).length) ∧
    (Ready (.statusRead 7 [250]) armed ∧ (250 : Byte).toNat ≤ 250 ∧ 250 < (251 : Byte).toNat) ∧
    PoolFits (withCtx 2 (ctxOf .measure .v 10 0 none) armed) ∧
    (withCtx 2 (ctxOf .measure .v 10 0 none) armed).ctx 2 = some (ctxOf .measure .v 10 0 none) := by
  have h : ∀ i c, (withCtx 2 (ctxOf .measure .v 10 0 none) armed).ctx i = some c →
      i = 2 ∧ c = ctxOf .measure .v 10 0 none := by
    intro i c
    fin_cases i <;> intro h <;> first | (cases h; done) | (cases h; exact ⟨rfl, rfl⟩)
  refine ⟨⟨?_, ?_, ?_⟩, ⟨?_, ?_, ?_⟩, ⟨?_, fun i c hc => ?_, fun i j c d hc hd _ _ => ?_⟩, rfl⟩
  case refine_8 => rw [(h i c hc).2]; exact ⟨rfl, rfl, rfl⟩
  case refine_9 => exact (h i c hc).1.trans (h j d hd).1.symm
  all_goals decide +kernel

/-- The last value admitted and the first that is not, of each. -/
theorem witness_SettingCommandsWriteTheirState :
    (Ready (.flagsClear 7 [15, 255, 255, 1]) armed ∧ 15 * 65536 + 255 * 256 + 255 < 2 ^ 20 ∧ (1 : Byte).toNat ≤ 1 ∧
      2 ^ 20 ≤ 16 * 65536 ∧ 2 ≤ (2 : Byte).toNat) ∧
    Ready (.attentionMask 7 [15, 255, 255]) armed ∧ (∀ a ∈ [0, 1, 2], Ready (.egressMode 7 [a]) armed) ∧
    Ready (.arrivalsFlush 7 []) (withRecords 32 armed) ∧
    (Ready (.reportInterval 7 [14, 16]) armed ∧ 14 * 256 + 16 ≤ 3600 ∧ 3600 < 14 * 256 + 17) := by
  refine ⟨⟨?_, ?_, ?_, ?_, ?_⟩, ?_, ?_, ?_, ?_, ?_, ?_⟩ <;> decide +kernel

theorem witness_RestartAndResetAreAnswered :
    (Ready (.pickerRestart 7 []) State.reset ∧ State.reset.tables.picker = .disarmed) ∧
    (Ready (.pickerRestart 7 []) armed ∧ armed.tables.picker = .running) ∧ Ready (.partReset 7 []) armed := by
  decide +kernel

/-- At a second and a millisecond before it, and with the timer stopped. -/
theorem witness_NoiseReportTakesTheSlot :
    (∀ ms ∈ [999, 1000],
      let s := { armed with status := { armed.status with interval := 1, timer := some ms } }
      s.status.timer = some ms ∧ s.status.interval * 1000 = 1000) ∧ armed.status.timer = none := by
  decide +kernel

/-! ### A running state that meets the invariants -/

/-- `armed` lets a step be taken. -/
theorem armed_steps : step armed = .next armed.tick := rfl

theorem witness_EveryStepKeepsTheCapacities : CapacitiesHold (flowing 2083000) := by
  refine ⟨?_, ?_, ?_, ?_⟩ <;> decide +kernel

theorem witness_EveryStepKeepsFiltersAndDetectors :
    FiltersFit (arrivalAt 9) ∧ OffBandsRest (arrivalAt 9) ∧ DetectorsFit (arrivalAt 9) := by
  refine ⟨⟨?_, ?_, ?_⟩, ⟨fun b => ?_, ?_⟩, ?_, ?_, ?_, ?_, ?_, ?_⟩
  case refine_4 => cases b <;> decide +kernel
  all_goals decide +kernel

theorem witness_AlignedHeadsStayWithinHalfAPeriod : GridsKept (flowing 2083000) ∧ HeadsTogether (flowing 2083000) := by
  refine ⟨by decide +kernel, fun _ c d => ?_⟩
  cases c <;> cases d <;> decide +kernel

/-- An OPEN event 7 in slot 2, every other slot FREE. -/
theorem witness_EveryStepKeepsThePool :
    PoolFits (withCtx 2 (ctxOf .open_ .v 10 7 (some .p)) armed) := by
  have h : ∀ i c, (withCtx 2 (ctxOf .open_ .v 10 7 (some .p)) armed).ctx i = some c →
      i = 2 ∧ c = ctxOf .open_ .v 10 7 (some .p) := by
    intro i c
    fin_cases i <;> intro h <;> first | (cases h; done) | (cases h; exact ⟨rfl, rfl⟩)
  refine ⟨by decide +kernel, fun i c hc => ?_, fun i j c d hc hd _ _ => (h i c hc).1.trans (h j d hd).1.symm⟩
  rw [(h i c hc).2]
  exact ⟨by decide, by decide, rfl, rfl⟩

theorem witness_ActiveTablesStayLegal : TablesLegal (withCommit .nextBoundary armed) := by
  have hr := witness_ClampingBringsEveryFieldIntoRange.2.1
  refine ⟨⟨by decide +kernel, by decide +kernel, by decide +kernel, by decide +kernel, by decide +kernel⟩, ⟨by decide +kernel, by decide +kernel⟩,
    fun _ => ⟨hr, by decide +kernel⟩, fun _ => ⟨hr, by decide +kernel⟩⟩

/-- DISARMED with shadow tables written, and RUNNING. -/
theorem witness_NothingIsPickedWhileDisarmed :
    DisarmedIsIdle { State.reset with tables := { TableBank.reset with shadow := legal, written := marks } } ∧
      DisarmedIsIdle armed := by
  refine ⟨⟨⟨?_, ?_, ?_, ?_, ?_⟩, fun _ => ⟨?_, ?_, ?_, ?_, ?_, ?_, ?_, ?_, ?_⟩⟩, ⟨?_, ?_, ?_, ?_, ?_⟩, fun h => ?_⟩
  all_goals first | decide +kernel | exact absurd h (by decide)

end Sys2Proof.Tests
end

section
/-! PROOFS. The walk through every row of the table that is not on the ports: what such a row leaves as it is, and that
it takes no buffer, ring, record queue or counter past its capacity. -/

namespace Sys2Proof.Proofs

open Sys2Proof Sys2Proof.Machine Sys2Proof.Safety

/-- The outcome is a next state that meets a condition. -/
def EndsIn (P : State → Prop) (o : Host.Outcome State Fault Refusal) : Prop := ∃ t, o = .next t ∧ P t

theorem endsIn_next {P : State → Prop} {t : State} (h : P t) : EndsIn P (.next t) := ⟨t, rfl, h⟩

theorem EndsIn.mono {P Q : State → Prop} {o : Host.Outcome State Fault Refusal} (hPQ : ∀ t, P t → Q t)
    (h : EndsIn P o) : EndsIn Q o := by
  obtain ⟨t, e, ht⟩ := h
  exact ⟨t, e, hPQ t ht⟩

/-! ### What stays behind the ports -/

/-- The capacities behind the ports: the Arrival Queue, the alignment buffers, the rings and the counters. -/
structure InsideBounded (s : State) : Prop where
  records : s.arrivals.records.length ≤ 32
  buffers : ∀ c, (s.asm.comps.get c).buffer.length ≤ 128
  rings : ∀ b, (s.array.rings.get b).length ≤ 128
  counters : CountersBounded s

/-- `t` has the framers, the queues, the lines and the replies of `s`, and keeps the capacities behind them. -/
structure StaysInside (s t : State) : Prop where
  sp : t.sp = s.sp
  lp : t.lp = s.lp
  link : t.link = s.link
  replies : t.cmd.replies = s.cmd.replies
  bounded : InsideBounded s → InsideBounded t

theorem StaysInside.refl (s : State) : StaysInside s s := ⟨rfl, rfl, rfl, rfl, id⟩

theorem StaysInside.trans {s t u : State} (h : StaysInside s t) (k : StaysInside t u) : StaysInside s u :=
  ⟨k.sp.trans h.sp, k.lp.trans h.lp, k.link.trans h.link, k.replies.trans h.replies, k.bounded ∘ h.bounded⟩

theorem StaysInside.after {s t u : State} (k : StaysInside t u) (h : StaysInside s t) : StaysInside s u := h.trans k

/-- A state that has the capacities' holders of `s` too is bounded when `s` is. -/
theorem InsideBounded.congr {s t : State} (h : InsideBounded s) (hr : t.arrivals.records = s.arrivals.records)
    (hb : t.asm.comps = s.asm.comps) (hg : t.array.rings = s.array.rings)
    (hc : t.status.counters = s.status.counters) : InsideBounded t := by
  obtain ⟨records, buffers, rings, counters⟩ := h
  refine ⟨hr ▸ records, hb ▸ buffers, hg ▸ rings, ?_⟩
  simpa only [CountersBounded, hc] using counters

/-- A row that touches nothing of the relation. -/
theorem staysInside_of_same {s t : State} (hsp : t.sp = s.sp := by rfl) (hlp : t.lp = s.lp := by rfl)
    (hlink : t.link = s.link := by rfl) (hreplies : t.cmd.replies = s.cmd.replies := by rfl)
    (hrecords : t.arrivals.records = s.arrivals.records := by rfl) (hcomps : t.asm.comps = s.asm.comps := by rfl)
    (hrings : t.array.rings = s.array.rings := by rfl)
    (hcounters : t.status.counters = s.status.counters := by rfl) : StaysInside s t :=
  ⟨hsp, hlp, hlink, hreplies, fun h => h.congr hrecords hcomps hrings hcounters⟩

/-! ### Flags, counters and records -/

theorem staysInside_latch (s : State) (f : Flag) : StaysInside s (s.latch f) :=
  staysInside_of_same

theorem staysInside_latchIf (s : State) (b : Bool) (f : Flag) : StaysInside s (s.latchIf b f) := by
  cases b
  · exact .refl s
  · exact staysInside_latch s f

theorem staysInside_bump (s : State) (k : Counter) (n : Nat) : StaysInside s (s.bump k n) :=
  ⟨rfl, rfl, rfl, rfl, fun h => ⟨h.records, h.buffers, h.rings, countersBounded_bump s k n h.counters⟩⟩

theorem staysInside_admit (s : State) (r : Record) : StaysInside s (admitRecord r s) := by
  obtain ⟨hlt, r', -, e⟩ | ⟨-, -, -, e⟩ | ⟨-, e⟩ := admitRecord_cases r s <;> rw [e]
  · exact ⟨rfl, rfl, rfl, rfl, fun h => ⟨by simpa using hlt, h.buffers, h.rings, h.counters⟩⟩
  · exact staysInside_bump s _ _
  · exact (staysInside_bump s _ _).trans (staysInside_latch _ _)

/-! ### The Context Engine -/

/-- A condition that every elementary operation of the Context Engine keeps: a flag, a count, one slot, the event
counter, the allocation pointer and the admission of a record. -/
structure EngineKeeps (P : State → Prop) : Prop where
  latch : ∀ s f, P s → P (s.latch f)
  bump : ∀ s k n, P s → P (s.bump k n)
  setCtx : ∀ s i c, P s → P (s.setCtx i c)
  setCounter : ∀ s n, P s → P (s.setCounter n)
  setPtr : ∀ (s : State) (i : Fin 8), P s → P { s with engine := { s.engine with ptr := i } }
  admission : ∀ s r, P s → P (admitRecord r s)

/-- What one operation after another keeps, their sequence keeps. -/
theorem foldl_keeps {α : Type} {P : State → Prop} {f : State → α → State} (hf : ∀ s a, P s → P (f s a)) (xs : List α)
    {s : State} (h : P s) : P (xs.foldl f s) := by
  induction xs generalizing s with
  | nil => exact h
  | cons x xs ih => exact ih (hf s x h)

namespace EngineKeeps

variable {P : State → Prop} (K : EngineKeeps P)
include K

theorem closeContext (cause : Cause) (i : Fin 8) (c : Context) {s : State} (h : P s) :
    P (closeContext cause i c s) :=
  K.setCtx _ _ _ (K.admission _ _ h)

theorem generateBare (slot time quality : Nat) (mask : PerBand Bool) (kind : Kind) (a b c : Bool) {s : State}
    (h : P s) : P (generateBare slot time quality mask kind a b c s) :=
  K.bump _ _ _ (K.admission _ _ (K.setCounter _ _ h))

theorem forceContext (cause : Cause) (s : State) (i : Fin 8) (h : P s) : P (forceContext cause s i) := by
  unfold Machine.forceContext
  split
  · exact h
  · split
    · exact K.setCtx _ _ _ (K.generateBare _ _ _ _ _ _ _ _ h)
    · exact K.closeContext _ _ _ h
    · exact K.closeContext _ _ _ h

theorem forcedClosure (cause : Cause) {s : State} (h : P s) : P (forcedClosure cause s) :=
  foldl_keeps (K.forceContext cause) _ h

theorem ownEvent (ph : Phase) (st : CtxState) (i : Fin 8) (c : Context) {s : State} (h : P s) :
    P (ownEvent ph st i c s) :=
  K.admission _ _ (K.setCtx _ _ _ (K.setCounter _ _ h))

theorem complete (i : Fin 8) (c : Context) {s : State} (h : P s) : P (complete i c s) := by
  obtain ⟨c', -, e | ⟨cls, -, e⟩ | ⟨j, p, -, -, -, e⟩ | ⟨j, p, -, -, e⟩⟩ := complete_cases i c s <;> rw [e]
  · exact K.ownEvent _ _ _ _ h
  · exact K.ownEvent _ _ _ _ h
  · exact K.setCtx _ _ _ (K.admission _ _ (K.setCtx _ _ _ h))
  · exact K.setCtx _ _ _ (K.setCtx _ _ _ h)

theorem lifeTest (i : Fin 8) (c : Context) {s : State} (h : P s) : P (lifeTest i c s) := by
  unfold Machine.lifeTest
  split
  · exact K.closeContext _ _ _ h
  · exact K.setCtx _ _ _ h

theorem measureTurn (r : Results) (i : Fin 8) (c : Context) {s : State} (h : P s) : P (measureTurn r i c s) := by
  simp only [Machine.measureTurn]
  split
  · exact K.complete _ _ h
  · exact K.setCtx _ _ _ h

theorem codaTurn (r : Results) (i : Fin 8) (c : Context) {s : State} (h : P s) : P (codaTurn r i c s) := by
  simp only [Machine.codaTurn]
  split
  · exact K.closeContext _ _ _ h
  · exact K.lifeTest _ _ h

theorem contextTurn (r : Results) (s : State) (i : Fin 8) (h : P s) : P (contextTurn r s i) := by
  unfold Machine.contextTurn
  split
  · exact h
  · split
    · exact K.measureTurn _ _ _ h
    · exact K.lifeTest _ _ h
    · exact K.codaTurn _ _ _ h

theorem takeContexts (r : Results) {s : State} (h : P s) : P (takeContexts r s) :=
  foldl_keeps (K.contextTurn r) _ h

theorem allocateAt (i : Fin 8) (t : Trigger) (f : Found) (time : Nat) {s : State} (h : P s) :
    P (allocateAt i t f time s) := by
  simp only [Machine.allocateAt]
  split
  · exact K.complete _ _ (K.setCtx _ _ _ (K.setPtr _ _ h))
  · exact K.setCtx _ _ _ (K.setPtr _ _ h)

theorem evict (i : Fin 8) {s : State} (h : P s) : P (evict i s) := by
  unfold Machine.evict
  split
  · exact h
  · exact K.latch _ _ (K.bump _ _ _ (K.closeContext _ _ _ h))

theorem allocate (t : Trigger) (f : Found) (time : Nat) {s : State} (h : P s) : P (allocate t f time s) := by
  unfold Machine.allocate
  split
  · exact K.allocateAt _ _ _ _ h
  · split
    · exact K.allocateAt _ _ _ _ (K.evict _ h)
    · exact K.latch _ _ (K.generateBare _ _ _ _ _ _ _ _ h)

theorem mergeInto (i : Fin 8) (b : Band) {s : State} (h : P s) : P (mergeInto i b s) := by
  unfold Machine.mergeInto
  split
  · exact h
  · exact K.setCtx _ _ _ h

theorem takeTrigger (r : Results) (s : State) (t : Trigger) (h : P s) : P (takeTrigger r s t) := by
  simp only [Machine.takeTrigger]
  split
  · exact K.mergeInto _ _ h
  · exact K.allocate _ _ _ h

theorem takeTriggers (r : Results) {s : State} (h : P s) : P (takeTriggers r s) :=
  foldl_keeps (K.takeTrigger r) _ h

end EngineKeeps

/-- The engine's elementary operations stay behind the ports. -/
theorem engineKeeps_staysInside (s : State) : EngineKeeps (StaysInside s) where
  latch t f h := h.trans (staysInside_latch t f)
  bump t k n h := h.trans (staysInside_bump t k n)
  setCtx _ _ _ h := h.trans staysInside_of_same
  setCounter _ _ h := h.trans staysInside_of_same
  setPtr _ _ h := h.trans staysInside_of_same
  admission t r h := h.trans (staysInside_admit t r)

theorem staysInside_forcedClosure (cause : Cause) (s : State) : StaysInside s (forcedClosure cause s) :=
  (engineKeeps_staysInside s).forcedClosure cause (.refl s)

/-! ### Swaps and reports -/

theorem staysInside_swapTables (s : State) : StaysInside s (swapTables s) :=
  staysInside_of_same

theorem staysInside_swapPlain (s : State) : StaysInside s (swapPlain s) :=
  (staysInside_swapTables s).trans staysInside_of_same

theorem staysInside_clearFilters (s : State) : StaysInside s (clearFilters s) :=
  staysInside_of_same

/-- The rings are emptied. -/
theorem staysInside_restartDetectors (s : State) : StaysInside s (restartDetectors s) :=
  ⟨rfl, rfl, rfl, rfl, fun h => ⟨h.records, h.buffers, fun b => by cases b <;> exact Nat.zero_le _, h.counters⟩⟩

/-- The alignment buffers are emptied. -/
theorem staysInside_clearAssembler (s : State) : StaysInside s (clearAssembler s) :=
  ⟨rfl, rfl, rfl, rfl, fun h => ⟨h.records, fun c => by simp [CompState.reset], h.rings, h.counters⟩⟩

theorem staysInside_resetForMap (s : State) : StaysInside s (resetForMap s) :=
  (staysInside_clearAssembler s).trans staysInside_of_same

theorem staysInside_bandReset (mapChanged : Bool) (s : State) : StaysInside s (bandReset mapChanged s) := by
  have h := (staysInside_clearFilters s).trans (staysInside_restartDetectors _)
  cases mapChanged
  · exact h
  · exact h.trans (staysInside_resetForMap _)

theorem staysInside_swapWithReset (s : State) : StaysInside s (swapWithReset s) :=
  (staysInside_swapTables s).trans (staysInside_bandReset _ _)

theorem staysInside_forcedSwap (s : State) : StaysInside s (forcedSwap s) :=
  ((staysInside_forcedClosure _ s).trans (staysInside_swapWithReset _)).trans (staysInside_latch _ _)

theorem staysInside_report (own : Bool) (s : State) : StaysInside s (report own s) := by
  obtain e | ⟨-, ⟨-, e⟩ | ⟨_, _, -, -, e⟩ | ⟨_, -, -, e⟩⟩ := report_cases own s <;> rw [e]
  · exact .refl s
  · exact staysInside_swapPlain s
  · exact staysInside_swapWithReset s
  · exact staysInside_forcedSwap s

/-! ### The Triad Assembler -/

theorem staysInside_sendNotices (k : NoticeKind) (s : State) : StaysInside s (sendNotices k s) :=
  staysInside_of_same

theorem staysInside_longGap (s : State) : StaysInside s (longGap s) :=
  (((staysInside_latch s _).trans (staysInside_bump _ _ _)).trans (staysInside_clearAssembler _)).trans
    (staysInside_sendNotices _ _)

/-- A component's record replaced by one whose buffer fits. -/
theorem staysInside_setComp (s : State) (c : Comp) (x : CompState) (hx : x.buffer.length ≤ 128) :
    StaysInside s (s.setComp c x) :=
  ⟨rfl, rfl, rfl, rfl, fun h => ⟨h.records, fun d => by
    rw [setComp_asm_comps, PerComp.get_set]
    split
    · exact hx
    · exact h.buffers d, h.rings, h.counters⟩⟩

/-- Components none of whose buffers has grown, with any phase and stall timers. -/
theorem staysInside_shrinkBuffers (s : State) (asm : Assembler)
    (h : ∀ c, (asm.comps.get c).buffer.length ≤ (s.asm.comps.get c).buffer.length) :
    StaysInside s { s with asm := asm } :=
  ⟨rfl, rfl, rfl, rfl, fun b => ⟨b.records, fun c => (h c).trans (b.buffers c), b.rings, b.counters⟩⟩

theorem trimBuffer_length (half latest : Nat) (c : CompState) :
    (trimBuffer half latest c).buffer.length ≤ c.buffer.length :=
  (List.dropWhile_sublist _).length_le

theorem staysInside_judgeAlignment (s : State) : StaysInside s (judgeAlignment s) := by
  have trimmed : ∀ half latest phase, StaysInside s
      { s with asm := { s.asm with phase := phase, comps := s.asm.comps.map (trimBuffer half latest) } } := by
    intro half latest phase
    exact staysInside_shrinkBuffers s _ (fun c => by simpa using trimBuffer_length _ _ _)
  unfold judgeAlignment
  split
  · dsimp only
    split
    · exact trimmed _ _ _
    · split
      · exact trimmed _ _ _
      · exact ((trimmed _ _ _).trans (staysInside_latch _ _)).trans (staysInside_clearAssembler _)
  · exact .refl s

/-- An appended frame leaves a buffer of at most 128 samples (R28). -/
theorem appendAt_length {period t : Nat} {bridge xs : List Sample} {last : Sample} {c d : CompState}
    (h : appendAt period t bridge xs last c = .append d) : d.buffer.length ≤ 128 := by
  obtain ⟨-, e⟩ | ⟨hle, d', e, hlen, -⟩ := appendAt_cases period t bridge xs last c
  · rw [e] at h
    cases h
  · rw [e] at h
    cases h
    omega

/-- A placed frame leaves a buffer of at most 128 samples (R25 to R28). -/
theorem place_length {m : ChannelMap} {start : Nat} {xs : List Sample} {c d : CompState}
    (h : place m start xs c = .append d) : d.buffer.length ≤ 128 := by
  unfold place at h
  dsimp only at h
  split at h
  · exact appendAt_length h
  · split at h
    · exact appendAt_length h
    · split at h
      · exact appendAt_length h
      · cases h
    · split at h
      · cases h
      · exact appendAt_length h

theorem staysInside_takeUsable (comp : Comp) (start : Nat) (xs : List Sample) (s : State) :
    StaysInside s (takeUsable comp start xs s) := by
  have placed : ∀ u c', c'.buffer.length ≤ 128 → StaysInside u (judgeAlignment (u.setComp comp c')) :=
    fun u c' hc => (staysInside_setComp u comp c' hc).trans (staysInside_judgeAlignment _)
  unfold takeUsable
  dsimp only
  have overlapped : StaysInside s (if overlaps s.chanMap start (s.asm.comps.get comp) then
      (s.bump .overlaps 1).latch .overlap else s) := by
    split
    · exact (staysInside_bump s _ _).trans (staysInside_latch _ _)
    · exact .refl s
  refine overlapped.trans ?_
  generalize (if overlaps s.chanMap start (s.asm.comps.get comp) then
    (s.bump .overlaps 1).latch .overlap else s) = u
  split
  · rename_i c' hp
    split
    · exact (staysInside_bump _ _ _).trans (placed _ c' (place_length hp))
    · exact placed _ c' (place_length hp)
  · exact .refl _
  · refine (staysInside_longGap _).trans ?_
    split
    · rename_i c' hp
      exact placed _ c' (appendAt_length hp)
    · exact .refl _
    · exact .refl _

theorem staysInside_takeCopy (c : SampleCopy) (s : State) : StaysInside s (takeCopy c s) := by
  unfold takeCopy
  split
  · exact .refl s
  · dsimp only
    split
    · exact (staysInside_latch s _).trans (staysInside_longGap _)
    · exact (staysInside_takeUsable _ _ _ _).after staysInside_of_same

/-! ### Filters and detectors -/

theorem staysInside_bankNotice (k : NoticeKind) (s : State) : StaysInside s (bankNotice k s) := by
  unfold bankNotice
  split
  · exact .refl s
  · exact (staysInside_clearFilters _).after staysInside_of_same

theorem staysInside_arrayNotice (k : NoticeKind) (s : State) : StaysInside s (arrayNotice k s) := by
  unfold arrayNotice
  split
  · exact (staysInside_restartDetectors _).after staysInside_of_same
  · exact .refl s

theorem staysInside_engineNotice (k : NoticeKind) (cause : Cause) (s : State) :
    StaysInside s (engineNotice k cause s) := by
  unfold engineNotice
  split
  · exact .refl s
  · exact (staysInside_report _ _).after ((staysInside_forcedClosure _ _).after staysInside_of_same)

theorem ringWrite_length (o : Option BandOut) (ring : List RingEntry) (h : ring.length ≤ 128) :
    (ringWrite o ring).length ≤ 128 := by
  cases o with
  | none => exact h
  | some x => exact ringAdd_length _ _ h

/-! ### The rows behind the ports -/

theorem staysInside_sampleCopyTaken (s : State) : EndsIn (StaysInside s) (execSampleCopyTaken s) := by
  unfold execSampleCopyTaken
  split
  · exact endsIn_next ((staysInside_takeCopy _ _).after staysInside_of_same)
  · exact endsIn_next (.refl s)

theorem staysInside_malformedNoticeTaken (s : State) : EndsIn (StaysInside s) (execMalformedNoticeTaken s) := by
  unfold execMalformedNoticeTaken
  split
  · rename_i rest _ _
    have taken : StaysInside s { s with asm := { s.asm with inbox := rest } } :=
      staysInside_of_same
    dsimp only
    split
    · exact endsIn_next taken
    · exact endsIn_next (taken.trans (staysInside_longGap _))
  · exact endsIn_next (.refl s)

theorem staysInside_stallTimerExpiry (stream : Comp) (s : State) :
    EndsIn (StaysInside s) (execStallTimerExpiry stream s) := by
  unfold execStallTimerExpiry
  split
  · exact endsIn_next ((staysInside_latch _ _).after staysInside_of_same)
  · exact endsIn_next (.refl s)

theorem staysInside_triadIssue (s : State) : EndsIn (StaysInside s) (execTriadIssue s) := by
  unfold execTriadIssue
  split
  · exact endsIn_next (.refl s)
  · have headless : ∀ phase, StaysInside s
        { s with asm := { s.asm with phase := phase, comps := s.asm.comps.map CompState.dropHead } } :=
      fun phase => staysInside_shrinkBuffers s _ (fun c => by simp [CompState.dropHead])
    exact endsIn_next ((headless _).trans staysInside_of_same)

theorem staysInside_filterTriad (s : State) : EndsIn (StaysInside s) (execFilterTriad s) := by
  unfold execFilterTriad
  split
  · exact endsIn_next ((staysInside_latchIf _ _ _).after staysInside_of_same)
  · exact endsIn_next (.refl s)

theorem staysInside_detectorTriad (s : State) : EndsIn (StaysInside s) (execDetectorTriad s) := by
  unfold execDetectorTriad
  split
  · refine endsIn_next ((staysInside_latchIf _ _ _).after ((staysInside_bump _ _ _).after
      ⟨rfl, rfl, rfl, rfl, fun h => ⟨h.records, h.buffers, fun b => ?_, h.counters⟩⟩))
    simpa using ringWrite_length _ _ (h.rings b)
  · exact endsIn_next (.refl s)

theorem staysInside_engineTriad (s : State) : EndsIn (StaysInside s) (execEngineTriad s) := by
  unfold execEngineTriad
  split
  · have K := engineKeeps_staysInside s
    exact endsIn_next ((staysInside_report _ _).after (K.takeTriggers _ (K.takeContexts _ staysInside_of_same)))
  · exact endsIn_next (.refl s)

theorem staysInside_commitWaitExpiry (s : State) : EndsIn (StaysInside s) (execCommitWaitExpiry s) := by
  unfold execCommitWaitExpiry
  split
  · split
    · exact endsIn_next (.refl s)
    · split
      · exact endsIn_next (staysInside_forcedSwap s)
      · exact endsIn_next staysInside_of_same
  · exact endsIn_next (.refl s)
  · exact endsIn_next (.refl s)
  · exact endsIn_next (.refl s)

theorem staysInside_noiseTimerExpiry (s : State) : EndsIn (StaysInside s) (execNoiseTimerExpiry s) := by
  unfold execNoiseTimerExpiry
  split
  · exact endsIn_next staysInside_of_same
  · exact endsIn_next (.refl s)

/-! ### The command rows -/

/-- `t` has the framers, the queues and the lines of `s`, its replies keep to their queue, and it keeps the capacities
behind the ports. -/
structure SamePorts (s t : State) : Prop where
  sp : t.sp = s.sp
  lp : t.lp = s.lp
  link : t.link = s.link
  replies : s.cmd.replies.length ≤ 4 → t.cmd.replies.length ≤ 4
  bounded : InsideBounded s → InsideBounded t

theorem StaysInside.samePorts {s t : State} (h : StaysInside s t) : SamePorts s t :=
  ⟨h.sp, h.lp, h.link, fun hr => h.replies ▸ hr, h.bounded⟩

/-- A reply joins a Reply Queue that has room. -/
theorem StaysInside.pushReply {s t : State} (h : StaysInside s t) (r : Reply) (hroom : s.cmd.replies.length < 4) :
    SamePorts s (pushReply r t) :=
  ⟨h.sp, h.lp, h.link, fun _ => by simpa [h.replies] using hroom, fun b => (h.bounded b).congr rfl rfl rfl rfl⟩

theorem SamePorts.of_inside {s u t : State} (h : StaysInside s u) (k : SamePorts u t) : SamePorts s t :=
  ⟨k.sp.trans h.sp, k.lp.trans h.lp, k.link.trans h.link, fun hr => k.replies (h.replies.symm ▸ hr),
    k.bounded ∘ h.bounded⟩

/-- A command row whose execution stays behind the ports keeps the ports, its reply aside. -/
theorem samePorts_runCommand (code tag : Byte) (ps : List Byte) (run : State → Answer) (s : State)
    (hrun : ∀ u, StaysInside u (run u).state) : EndsIn (SamePorts s) (runCommand code tag ps run s) := by
  obtain e | ⟨u, hu, h⟩ := runCommand_cases code tag ps run s
  · exact e ▸ endsIn_next (StaysInside.refl s).samePorts
  · have taken : StaysInside s u := by
      obtain rfl | rfl := hu
      · exact .refl _
      · exact staysInside_of_same
    obtain ⟨-, e⟩ | ⟨-, e⟩ | ⟨hroom, e⟩ := h <;> rw [e]
    · exact endsIn_next taken.samePorts
    · exact endsIn_next (taken.trans (staysInside_latch u _)).samePorts
    · exact endsIn_next (.of_inside taken ((hrun u).pushReply _ hroom))

/-- A command with operands: MALFORMED changes nothing, so its execution is what counts. -/
theorem staysInside_withForm {α : Type} (args : Option α) (run : α → State → Answer)
    (hrun : ∀ a u, StaysInside u (run a u).state) (u : State) : StaysInside u (withForm args run u).state := by
  cases args with
  | none => exact .refl u
  | some a => exact hrun a u

theorem samePorts_judgeTagged (tag code : Byte) (r : Result) (s : State) :
    SamePorts s (judgeTagged tag code (refuse r) s) := by
  unfold judgeTagged
  split
  · exact (StaysInside.refl s).samePorts
  · split
    · exact (staysInside_latch s _).samePorts
    · rename_i hfull
      exact (StaysInside.refl s).pushReply _ (Nat.lt_of_not_le hfull)

theorem samePorts_commandUndecoded (payload : List Byte) (s : State) :
    EndsIn (SamePorts s) (execCommandUndecoded payload s) := by
  have judged : ∀ u, SamePorts u (judgeUndecoded payload u) := by
    intro u
    unfold judgeUndecoded
    split
    · exact (StaysInside.refl u).samePorts
    · split
      · exact (staysInside_bump u _ _).samePorts
      · exact samePorts_judgeTagged _ _ _ u
      · exact samePorts_judgeTagged _ _ _ u
  unfold execCommandUndecoded
  split
  · by_cases h : s.cmd.inbox = [] ∨ s.cmd.inbox.head? = some payload
    · rw [takeFrame_ready payload s h]
      exact endsIn_next (.of_inside staysInside_of_same (judged _))
    · rw [takeFrame_none payload s h]
      exact endsIn_next (StaysInside.refl s).samePorts
  · exact endsIn_next (StaysInside.refl s).samePorts

/-! ### What the commands do -/

theorem staysInside_writeTable (a : WriteArgs) (s : State) : StaysInside s (writeTable a s).state := by
  unfold writeTable
  split
  · exact .refl s
  · split
    · exact .refl s
    · exact staysInside_of_same

/-- FLAGS_CLEAR leaves the counters as they are or at 0. -/
theorem staysInside_clearStatus (mask : BitVec 20) (counters : Bool) (s : State) :
    StaysInside s (clearStatus mask counters s).state := by
  cases counters
  · exact staysInside_of_same
  · exact ⟨rfl, rfl, rfl, rfl, fun h => ⟨h.records, h.buffers, h.rings,
      by simp [CountersBounded, clearStatus, done, Counters.zero]⟩⟩

theorem staysInside_startCommit (limit : Nat) (s : State) : StaysInside s (startCommit limit s) := by
  unfold startCommit
  split
  · split
    · exact staysInside_swapPlain s
    · exact staysInside_of_same
  · exact staysInside_swapWithReset s
  · split
    · exact staysInside_of_same
    · split
      · exact staysInside_forcedSwap s
      · exact staysInside_of_same

theorem staysInside_commitTables (limit : Nat) (s : State) : StaysInside s (commitTables limit s).state := by
  have clamped : StaysInside s (clampShadow s) := (staysInside_latchIf _ _ _).after staysInside_of_same
  unfold commitTables
  split
  · exact .refl s
  · split
    · exact .refl s
    · split
      · exact .refl s
      · dsimp only [done]
        exact clamped.trans (staysInside_startCommit _ _)

theorem staysInside_cancelCommit (s : State) : StaysInside s (cancelCommit s).state := by
  unfold cancelCommit
  split
  · exact .refl s
  · exact staysInside_of_same

theorem staysInside_guardMap (a : GuardArgs) (s : State) : StaysInside s (guardMap a s).state := by
  unfold guardMap
  split
  · exact staysInside_of_same
  · exact .refl s
  · split
    · exact staysInside_of_same
    · exact .refl s
  · exact .refl s

/-- ARRIVALS_FLUSH leaves no record. -/
theorem staysInside_flushArrivals (s : State) : StaysInside s (flushArrivals s).state :=
  ⟨rfl, rfl, rfl, rfl, fun h => ⟨Nat.zero_le _, h.buffers, h.rings, h.counters⟩⟩

theorem staysInside_restartPicker (s : State) : StaysInside s (restartPicker s).state := by
  unfold restartPicker
  split
  · exact .refl s
  · exact (staysInside_clearAssembler s).trans (staysInside_sendNotices _ _)

/-! ### Every row but those of the ports -/

/-- The rows that work on a framer, a relay queue or a transmit line. -/
def onPorts : Instr → Bool
  | .fullReset _ | .rxByte _ _ _ _ | .frameReceived _ | .byteTimeout _ | .upstreamFrameStart | .upstreamFrameSent
  | .egressChoice | .egressFrameSent _ => true
  | _ => false

/-- Every other row keeps the ports. -/
theorem exec_samePorts (c : Instr) (s : State) (h : onPorts c = false) : EndsIn (SamePorts s) (exec c s) := by
  have inside : ∀ {o}, EndsIn (StaysInside s) o → EndsIn (SamePorts s) o := EndsIn.mono (fun _ => StaysInside.samePorts)
  cases c with
  | fullReset _ => cases h
  | rxByte _ _ _ _ => cases h
  | frameReceived _ => cases h
  | byteTimeout _ => cases h
  | upstreamFrameStart => cases h
  | upstreamFrameSent => cases h
  | egressChoice => cases h
  | egressFrameSent _ => cases h
  | sampleCopyTaken => exact inside (staysInside_sampleCopyTaken s)
  | malformedNoticeTaken => exact inside (staysInside_malformedNoticeTaken s)
  | stallTimerExpiry stream => exact inside (staysInside_stallTimerExpiry stream s)
  | triadIssue => exact inside (staysInside_triadIssue s)
  | filterTriad => exact inside (staysInside_filterTriad s)
  | detectorTriad => exact inside (staysInside_detectorTriad s)
  | engineTriad => exact inside (staysInside_engineTriad s)
  | gapNoticeFilter => exact inside (endsIn_next (staysInside_bankNotice _ s))
  | gapNoticeDetector => exact inside (endsIn_next (staysInside_arrayNotice _ s))
  | gapNoticeEngine => exact inside (endsIn_next (staysInside_engineNotice _ _ s))
  | restartFilter => exact inside (endsIn_next (staysInside_bankNotice _ s))
  | restartDetector => exact inside (endsIn_next (staysInside_arrayNotice _ s))
  | restartEngine => exact inside (endsIn_next (staysInside_engineNotice _ _ s))
  | commitWaitExpiry => exact inside (staysInside_commitWaitExpiry s)
  | noiseTimerExpiry => exact inside (staysInside_noiseTimerExpiry s)
  | commandUndecoded payload => exact samePorts_commandUndecoded payload s
  | echo tag ps =>
    exact samePorts_runCommand _ _ _ _ _ (staysInside_withForm _ _ (fun _ u => .refl u))
  | statusRead tag ps =>
    exact samePorts_runCommand _ _ _ _ _ (staysInside_withForm _ _ (fun _ u => .refl u))
  | flagsClear tag ps =>
    exact samePorts_runCommand _ _ _ _ _ (staysInside_withForm _ _ (fun _ u => staysInside_clearStatus _ _ u))
  | attentionMask tag ps =>
    exact samePorts_runCommand _ _ _ _ _ (staysInside_withForm _ _ (fun _ _ => staysInside_of_same))
  | tableWrite tag ps =>
    exact samePorts_runCommand _ _ _ _ _ (staysInside_withForm _ _ staysInside_writeTable)
  | tableRead tag ps =>
    exact samePorts_runCommand _ _ _ _ _ (staysInside_withForm _ _ (fun _ u => .refl u))
  | tablesCommit tag ps =>
    exact samePorts_runCommand _ _ _ _ _ (staysInside_withForm _ _ staysInside_commitTables)
  | commitCancel tag ps =>
    exact samePorts_runCommand _ _ _ _ _ (staysInside_withForm _ _ (fun _ => staysInside_cancelCommit))
  | mapGuard tag ps =>
    exact samePorts_runCommand _ _ _ _ _ (staysInside_withForm _ _ staysInside_guardMap)
  | egressMode tag ps =>
    exact samePorts_runCommand _ _ _ _ _ (staysInside_withForm _ _ (fun _ _ => staysInside_of_same))
  | arrivalsFlush tag ps =>
    exact samePorts_runCommand _ _ _ _ _ (staysInside_withForm _ _ (fun _ => staysInside_flushArrivals))
  | reportInterval tag ps =>
    exact samePorts_runCommand _ _ _ _ _ (staysInside_withForm _ _ (fun _ _ => staysInside_of_same))
  | pickerRestart tag ps =>
    exact samePorts_runCommand _ _ _ _ _ (staysInside_withForm _ _ (fun _ => staysInside_restartPicker))
  | partReset tag ps =>
    exact samePorts_runCommand _ _ _ _ _ (staysInside_withForm _ _ (fun _ _ => staysInside_of_same))

end Sys2Proof.Proofs
end

section
/-! PROOFS. The rows on the ports and their capacities; with the walk through the other rows, no step passes a
capacity. -/

namespace Sys2Proof.Proofs

open Sys2Proof Sys2Proof.Machine Sys2Proof.Safety

/-! ### The capacities port by port -/

/-- The capacities of the ports: the relay queues, the Reply Queue and the framers. -/
structure PortsBounded (s : State) : Prop where
  forward : s.link.forwardQ.length ≤ 8
  upstream : s.link.upstreamQ.length ≤ 4
  replies : s.cmd.replies.length ≤ 4
  framers : ∀ p, FramerBounded (s.framer p)

theorem capacitiesHold_iff (s : State) : CapacitiesHold s ↔ PortsBounded s ∧ InsideBounded s := by
  constructor
  · rintro ⟨⟨forward, upstream, replies, records⟩, ⟨sp, lp⟩, ⟨z, n, e, r0, r1, r2⟩, counters⟩
    exact ⟨⟨forward, upstream, replies, fun p => by cases p <;> assumption⟩,
      ⟨records, fun c => by cases c <;> assumption, fun b => by cases b <;> assumption, counters⟩⟩
  · rintro ⟨⟨forward, upstream, replies, framers⟩, ⟨records, buffers, rings, counters⟩⟩
    exact ⟨⟨forward, upstream, replies, records⟩, ⟨framers .sp, framers .lp⟩,
      ⟨buffers .z, buffers .n, buffers .e, rings .b0, rings .b1, rings .b2⟩, counters⟩

theorem SamePorts.capacitiesHold {s t : State} (k : SamePorts s t) (h : CapacitiesHold s) : CapacitiesHold t := by
  rw [capacitiesHold_iff] at h ⊢
  obtain ⟨⟨forward, upstream, replies, framers⟩, inside⟩ := h
  refine ⟨⟨k.link ▸ forward, k.link ▸ upstream, k.replies replies, fun p => ?_⟩, k.bounded inside⟩
  cases p
  · simpa only [State.framer, k.sp] using framers .sp
  · simpa only [State.framer, k.lp] using framers .lp

/-! ### Routing (R13, R14) -/

theorem capacitiesHold_latch (s : State) (f : Flag) (h : CapacitiesHold s) : CapacitiesHold (s.latch f) :=
  (staysInside_latch s f).samePorts.capacitiesHold h

theorem capacitiesHold_bump (s : State) (k : Counter) (n : Nat) (h : CapacitiesHold s) : CapacitiesHold (s.bump k n) :=
  (staysInside_bump s k n).samePorts.capacitiesHold h

theorem capacitiesHold_offerForward (frame : List Byte) (s : State) (h : CapacitiesHold s) :
    CapacitiesHold (offerForward frame s) := by
  obtain ⟨hlt, e⟩ | ⟨-, e⟩ := offerForward_cases frame s <;> rw [e]
  · obtain ⟨⟨-, upstream, rest⟩, framers, buffers, counters⟩ := h
    exact ⟨⟨by simpa using hlt, upstream, rest⟩, framers, buffers, counters⟩
  · exact capacitiesHold_latch _ _ (capacitiesHold_bump _ _ _ h)

theorem capacitiesHold_offerUpstream (frame : List Byte) (s : State) (h : CapacitiesHold s) :
    CapacitiesHold (offerUpstream frame s) := by
  obtain ⟨hlt, e⟩ | ⟨-, e⟩ := offerUpstream_cases frame s <;> rw [e]
  · obtain ⟨⟨forward, -, rest⟩, framers, buffers, counters⟩ := h
    exact ⟨⟨forward, by simpa using hlt, rest⟩, framers, buffers, counters⟩
  · exact capacitiesHold_latch _ _ (capacitiesHold_bump _ _ _ h)

theorem staysInside_examineSample (payload : List Byte) (s : State) : StaysInside s (examineSample payload s) := by
  unfold examineSample
  split
  · exact .refl s
  · split
    · exact .refl s
    · split
      · exact staysInside_of_same
      · exact staysInside_of_same

theorem capacitiesHold_route (p : Port) (frame : List Byte) (s : State) (h : CapacitiesHold s) :
    CapacitiesHold (route p frame s) := by
  cases p with
  | sp =>
    simp only [route, routeSensor]
    split
    · exact (staysInside_examineSample _ _).samePorts.capacitiesHold (capacitiesHold_offerForward frame s h)
    · exact capacitiesHold_offerForward frame s h
  | lp =>
    simp only [route, routeLogger]
    split
    · exact (staysInside_of_same : StaysInside s _).samePorts.capacitiesHold h
    · exact capacitiesHold_offerUpstream frame s h

/-! ### Framers at work (R8 to R12) -/

/-- The framer as a scan leaves it. -/
def framerAfter (a : Scan) (f : Framer) : Framer :=
  { f with lock := a.lock, run := a.run, held := a.held, timer := timerFor a.held }

/-- What a scan does before its good frames are routed: the framer, the counts and the flags. -/
def tally (p : Port) (a : Scan) (s : State) : State :=
  ((((s.setFramer p (framerAfter a (s.framer p))).bump .bytesSkipped a.skipped).bump .crcErrors a.crcErrors).latchIf
    (decide (a.crcErrors ≠ 0)) .crcError).latchIf a.lost (lostLockFlag p)

theorem applyScan_eq (p : Port) (a : Scan) (s : State) :
    applyScan p a s = a.frames.foldl (fun s frame => route p frame s) (tally p a s) := rfl

/-- Routing, one frame after another, touches what one routing touches. -/
theorem sameOutsideRouting_routes (p : Port) (frames : List (List Byte)) (s : State) :
    SameOutsideRouting s (frames.foldl (fun s frame => route p frame s) s) :=
  foldl_keeps (fun t frame h => h.trans (sameOutsideRouting_route p frame t)) frames (.refl s)

theorem framer_of_sameOutsideRouting {s t : State} (h : SameOutsideRouting s t) (p : Port) :
    t.framer p = s.framer p := by
  cases p
  · exact h.sp
  · exact h.lp

@[simp] theorem framer_latchIf (s : State) (p : Port) (b : Bool) (f : Flag) :
    (s.latchIf b f).framer p = s.framer p := by
  cases b
  · rfl
  · exact framer_latch s p f

@[simp] theorem framer_tally (p : Port) (a : Scan) (s : State) :
    (tally p a s).framer p = framerAfter a (s.framer p) := by
  simp [tally]

@[simp] theorem framer_applyScan (p : Port) (a : Scan) (s : State) :
    (applyScan p a s).framer p = framerAfter a (s.framer p) := by
  rw [applyScan_eq, framer_of_sameOutsideRouting (sameOutsideRouting_routes p _ _), framer_tally]

/-- A framer replaced by one within its capacity. -/
theorem capacitiesHold_setFramer (p : Port) (f : Framer) (s : State) (hf : FramerBounded f) (h : CapacitiesHold s) :
    CapacitiesHold (s.setFramer p f) := by
  obtain ⟨queues, ⟨sp, lp⟩, buffers, counters⟩ := h
  cases p
  · exact ⟨queues, ⟨hf, lp⟩, buffers, counters⟩
  · exact ⟨queues, ⟨sp, hf⟩, buffers, counters⟩

theorem framerBounded_framer {s : State} (h : CapacitiesHold s) (p : Port) : FramerBounded (s.framer p) :=
  ((capacitiesHold_iff s).mp h).1.framers p

/-- A scan within a framer's capacity keeps every capacity. -/
theorem capacitiesHold_applyScan (p : Port) (a : Scan) (s : State) (ha : FramerBounded (framerAfter a (s.framer p)))
    (h : CapacitiesHold s) : CapacitiesHold (applyScan p a s) := by
  have latched : ∀ t b f, CapacitiesHold t → CapacitiesHold (t.latchIf b f) :=
    fun t b f => (staysInside_latchIf t b f).samePorts.capacitiesHold
  refine foldl_keeps (fun t frame => capacitiesHold_route p frame t) a.frames ?_
  exact latched _ _ _ (latched _ _ _ (capacitiesHold_bump _ _ _ (capacitiesHold_bump _ _ _
    (capacitiesHold_setFramer p _ s ha h))))

/-- The failure run of a scan keeps its range: 0 to 2, and 0 in HUNT (R8). -/
abbrev RunBounded (a : Scan) : Prop := a.run ≤ 2 ∧ (a.lock = .hunt → a.run = 0)

theorem runBounded_discard (a : Scan) (h : RunBounded a) : RunBounded a.discard := by
  unfold Scan.discard
  split
  · exact h
  · exact ⟨Nat.zero_le _, fun _ => rfl⟩

theorem runBounded_move (judging : Bool) (a b : Scan) (h : RunBounded a) (hmove : a.move judging = some b) :
    RunBounded b := by
  obtain ⟨-, rfl⟩ | ⟨-, n, -, -, -, rfl⟩ := move_cases judging a b hmove
  · exact runBounded_discard a h
  · obtain ⟨-, e⟩ | ⟨-, -, e⟩ | ⟨-, hl, hr, e⟩ | ⟨-, -, -, e⟩ := judge_cases n a <;> rw [e]
    · exact ⟨Nat.zero_le _, fun _ => rfl⟩
    · exact runBounded_discard a h
    · exact ⟨hr, fun hh => by simp [hl] at hh⟩
    · exact ⟨Nat.zero_le _, fun _ => rfl⟩

/-- A framer's work leaves it with its run in range and no more bytes than it had. -/
theorem scan_bounded (judging : Bool) (f : Framer) (h : RunBounded ⟨f.lock, f.run, f.held, [], 0, 0, false⟩) :
    RunBounded (f.scan judging) ∧ (f.scan judging).held.length ≤ f.held.length :=
  go_keeps judging (fun a => RunBounded a ∧ a.held.length ≤ f.held.length)
    (fun a b ha hb => ⟨runBounded_move judging a b ha.1 hb, (move_shorter judging a b hb).le.trans ha.2⟩) _ _
    ⟨h, le_refl _⟩

/-- Bytes that are no complete frame are fewer than the longest frame has (R2). -/
theorem length_of_not_frameComplete {held : List Byte} (h : frameComplete held = false) : held.length ≤ 260 := by
  match held with
  | [] | [_] | [_, _] | [_, _, _] => simp
  | _ :: _ :: _ :: len :: rest =>
    have hlen : len.toNat < 256 := len.isLt
    simp only [frameComplete, frameLength, decide_eq_false_iff_not] at h
    omega

/-- Behind a framer's work stands no complete frame that it has not judged. -/
theorem not_frameComplete_of_waits {a : Scan} (h : a.move true = none) : frameComplete a.held = false := by
  unfold Scan.move at h
  split at h
  · rename_i hh
    rw [hh]
    rfl
  · split at h
    · cases h
    · split at h
      · rename_i hh
        rw [hh]
        rfl
      · split at h
        · cases h
        · split at h
          · rename_i hn
            simp [frameComplete, hn]
          · rename_i hn
            split at h
            · cases h
            · rename_i hshort
              simpa [frameComplete, hn] using hshort

theorem capacitiesHold_judgeHeld (p : Port) (s : State) (h : CapacitiesHold s) :
    CapacitiesHold (judgeHeld p s) ∧ ((judgeHeld p s).framer p).held.length ≤ 260 := by
  obtain ⟨hheld, hrun⟩ := framerBounded_framer h p
  unfold judgeHeld
  split
  · obtain ⟨hr, hl⟩ := scan_bounded true (s.framer p) hrun
    refine ⟨capacitiesHold_applyScan p _ s ⟨hl.trans hheld, hr⟩ h, ?_⟩
    rw [framer_applyScan]
    exact length_of_not_frameComplete (not_frameComplete_of_waits (go_waits true _ _ (le_refl _)))
  · rename_i hc
    exact ⟨h, length_of_not_frameComplete (by simpa using hc)⟩

theorem capacitiesHold_takeByte (p : Port) (b : Byte) (s : State) (hroom : (s.framer p).held.length ≤ 260)
    (h : CapacitiesHold s) : CapacitiesHold (takeByte p b s) := by
  obtain ⟨-, hrun⟩ := framerBounded_framer h p
  obtain ⟨hr, hl⟩ := scan_bounded false { s.framer p with held := (s.framer p).held ++ [b] } hrun
  refine capacitiesHold_applyScan p _ s ⟨hl.trans ?_, hr⟩ h
  simp only [List.length_append, List.length_singleton]
  omega

theorem capacitiesHold_abandonHeld (p : Port) (s : State) (h : CapacitiesHold s) :
    CapacitiesHold (abandonHeld p s) := by
  obtain ⟨-, hrun⟩ := framerBounded_framer h p
  simp only [abandonHeld]
  split
  · exact capacitiesHold_latch _ _ (capacitiesHold_latch _ _ (capacitiesHold_bump _ _ _
      (capacitiesHold_setFramer p _ s ⟨Nat.zero_le _, Nat.zero_le _, fun _ => rfl⟩ h)))
  · exact capacitiesHold_bump _ _ _ (capacitiesHold_setFramer p _ s ⟨Nat.zero_le _, hrun⟩ h)

/-! ### The rows on the ports -/

theorem capacitiesHold_resetWith (straps : BitVec 2) (pending : List Instr) :
    CapacitiesHold (State.resetWith straps pending) := by
  simp [CapacitiesHold, QueuesBounded, FramersBounded, FramerBounded, BuffersBounded, CountersBounded, State.resetWith,
    Framer.reset, Assembler.reset, CompState.reset, DetectorArray.reset, StatusUnit.reset, Counters.zero]

theorem capacitiesHold_rxByte (p : Port) (b : Byte) (stop : StopBit) (was : Bool) (s : State) (h : CapacitiesHold s) :
    EndsIn CapacitiesHold (execRxByte p b stop was s) := by
  unfold execRxByte
  split
  · obtain ⟨hj, hroom⟩ := capacitiesHold_judgeHeld p s h
    have taken := capacitiesHold_takeByte p b _ hroom hj
    exact endsIn_next (capacitiesHold_setFramer p _ _ (framerBounded_framer taken p) taken)
  · exact endsIn_next h

theorem capacitiesHold_byteTimeout (p : Port) (s : State) (h : CapacitiesHold s) :
    EndsIn CapacitiesHold (execByteTimeout p s) := by
  unfold execByteTimeout
  split
  · exact endsIn_next (capacitiesHold_abandonHeld p s h)
  · exact endsIn_next h

theorem capacitiesHold_upstreamFrameStart (s : State) (h : CapacitiesHold s) :
    EndsIn CapacitiesHold (execUpstreamFrameStart s) := by
  unfold execUpstreamFrameStart
  split
  · rename_i hq
    obtain ⟨⟨forward, upstream, rest⟩, others⟩ := h
    rw [hq, List.length_cons] at upstream
    exact endsIn_next ⟨⟨forward, by dsimp only; omega, rest⟩, others⟩
  · exact endsIn_next h

theorem capacitiesHold_upstreamFrameSent (s : State) (h : CapacitiesHold s) :
    EndsIn CapacitiesHold (execUpstreamFrameSent s) := by
  unfold execUpstreamFrameSent
  split
  · exact endsIn_next h
  · exact endsIn_next (capacitiesHold_bump { s with link := { s.link with spLine := none } } _ _ h)

/-- The entry chosen for the line leaves its queue, and no queue grows (R15). -/
theorem capacitiesHold_chooseFrame (s : State) (h : CapacitiesHold s) : CapacitiesHold (chooseFrame s) := by
  obtain ⟨⟨forward, upstream, replies, records⟩, others⟩ := h
  unfold chooseFrame
  split
  · rename_i hq
    rw [hq, List.length_cons] at forward
    exact ⟨⟨(Nat.le_succ _).trans forward, upstream, replies, records⟩, others⟩
  · rename_i hq
    rw [hq, List.length_cons] at replies
    exact ⟨⟨forward, upstream, (Nat.le_succ _).trans replies, records⟩, others⟩
  · exact ⟨⟨forward, upstream, replies, records⟩, others⟩
  · rename_i hq
    rw [hq, List.length_cons] at records
    exact ⟨⟨forward, upstream, replies, (Nat.le_succ _).trans records⟩, others⟩
  · exact ⟨⟨forward, upstream, replies, records⟩, others⟩
  · exact ⟨⟨forward, upstream, replies, records⟩, others⟩

theorem capacitiesHold_egressChoice (s : State) (h : CapacitiesHold s) :
    EndsIn CapacitiesHold (execEgressChoice s) := by
  unfold execEgressChoice
  split
  · exact endsIn_next h
  · exact endsIn_next (capacitiesHold_chooseFrame s h)

theorem capacitiesHold_egressFrameSent (straps : BitVec 2) (s : State) (h : CapacitiesHold s) :
    EndsIn CapacitiesHold (execEgressFrameSent straps s) := by
  unfold execEgressFrameSent
  split
  · exact endsIn_next h
  · refine endsIn_next ?_
    unfold recordSent
    split
    · exact capacitiesHold_resetWith _ _
    · split
      · exact capacitiesHold_bump { s with link := { s.link with lpLine := none } } _ _ h
      · exact h

/-- Every row keeps the capacities. -/
theorem exec_keeps_capacities (c : Instr) (s : State) (h : CapacitiesHold s) : EndsIn CapacitiesHold (exec c s) := by
  by_cases hc : onPorts c = false
  · exact (exec_samePorts c s hc).mono (fun _ k => k.capacitiesHold h)
  · cases c with
    | fullReset straps => exact endsIn_next (capacitiesHold_resetWith _ _)
    | rxByte p b stop was => exact capacitiesHold_rxByte p b stop was s h
    | frameReceived p => exact endsIn_next (capacitiesHold_judgeHeld p s h).1
    | byteTimeout p => exact capacitiesHold_byteTimeout p s h
    | upstreamFrameStart => exact capacitiesHold_upstreamFrameStart s h
    | upstreamFrameSent => exact capacitiesHold_upstreamFrameSent s h
    | egressChoice => exact capacitiesHold_egressChoice s h
    | egressFrameSent straps => exact capacitiesHold_egressFrameSent straps s h
    | _ => exact absurd rfl hc

/-- A millisecond keeps the capacities. -/
theorem capacitiesHold_tick (s : State) (h : CapacitiesHold s) : CapacitiesHold s.tick := h

/-- Settles O55: by the walk through the rows, each of which keeps the capacities of the ports and those behind them. -/
theorem everyStepKeepsTheCapacities : Obligations.EveryStepKeepsTheCapacities := by
  intro s t h hstep
  unfold step at hstep
  split at hstep
  · cases hstep
    exact capacitiesHold_tick s h
  · rename_i c rest _
    obtain ⟨u, e, hu⟩ := exec_keeps_capacities c { s with pending := rest } h
    rw [e] at hstep
    cases hstep
    exact hu

end Sys2Proof.Proofs
end

section
/-! PROOFS. The CRC register as a shift register that loses nothing, and the residue of a frame with its CRC (R3). -/

namespace Sys2Proof.Proofs

open Sys2Proof Sys2Proof.Machine Sys2Proof.Safety

/-- The lowest bit after a shift tells the bit that was shifted out: the polynomial is odd. -/
theorem crcShift_bit_zero (r : BitVec 16) : (crcShift r).getLsbD 0 = r.getLsbD 15 := by
  unfold crcShift
  split
  · rename_i h
    simpa using h.symm
  · rename_i h
    simpa using h

/-- A shift of the register can be undone. -/
theorem crcShift_injective : Function.Injective crcShift := by
  intro r q h
  have htop : r.getLsbD 15 = q.getLsbD 15 := by
    rw [← crcShift_bit_zero, ← crcShift_bit_zero, h]
  have hshift : r <<< 1 = q <<< 1 := by
    unfold crcShift at h
    rw [htop] at h
    split at h
    · exact BitVec.xor_left_inj _ |>.mp h
    · exact h
  apply BitVec.eq_of_getLsbD_eq
  intro i hi
  by_cases h15 : i = 15
  · rw [h15, htop]
  · have := congrArg (fun x => x.getLsbD (i + 1)) hshift
    simpa [BitVec.getLsbD_shiftLeft, BitVec.getLsbD_eq_getElem hi, show i + 1 < 16 by omega] using this

/-- While nothing is shifted out, shifts of the register are shifts. -/
theorem iterate_crcShift_of_small (n : Nat) (r : BitVec 16) (h : r.toNat * 2 ^ n < 2 ^ 16) :
    (crcShift^[n] r).toNat = r.toNat * 2 ^ n := by
  induction n with
  | zero => simp
  | succ n ih =>
    rw [pow_succ, ← mul_assoc] at h ⊢
    have hn := ih (by omega)
    have htop : (crcShift^[n] r).getLsbD 15 = false := by
      rw [BitVec.getLsbD, hn]
      exact Nat.testBit_lt_two_pow (by omega)
    rw [Function.iterate_succ_apply', crcShift, if_neg (by rw [htop]; decide), BitVec.toNat_shiftLeft, hn,
      Nat.shiftLeft_eq, Nat.mod_eq_of_lt (by omega)]

/-- A byte's entry is eight shifts. -/
theorem crcByte_eq (r : BitVec 16) (b : Byte) : crcByte r b = crcShift^[8] (r ^^^ (b.setWidth 16 <<< 8)) := rfl

/-- A byte brings the register to zero exactly when it stands in the register's high half and the low half is zero. -/
theorem crcByte_eq_zero_iff (r : BitVec 16) (b : Byte) : crcByte r b = 0 ↔ r = b.setWidth 16 <<< 8 := by
  rw [crcByte_eq, show (0 : BitVec 16) = crcShift^[8] 0 from rfl, (crcShift_injective.iterate 8).eq_iff,
    xor_eq_zero_iff]

/-- Two bytes side by side in the register (R3). -/
theorem toNat_byte_xor_byte (hi lo : Byte) :
    (hi.setWidth 16 <<< 8 ^^^ lo.setWidth 16 : BitVec 16).toNat = hi.toNat * 256 + lo.toNat := by
  have hhi : hi.toNat < 256 := hi.isLt
  have hlo : lo.toNat < 256 := lo.isLt
  apply Nat.eq_of_testBit_eq
  intro i
  rw [show hi.toNat * 256 + lo.toNat = 2 ^ 8 * hi.toNat + lo.toNat by omega, Nat.testBit_two_pow_mul_add _ hlo]
  simp only [BitVec.toNat_xor, BitVec.toNat_shiftLeft, BitVec.toNat_setWidth, Nat.testBit_xor,
    Nat.mod_eq_of_lt (show hi.toNat < 2 ^ 16 by omega), Nat.mod_eq_of_lt (show lo.toNat < 2 ^ 16 by omega),
    Nat.mod_eq_of_lt (show hi.toNat <<< 8 < 2 ^ 16 by omega), Nat.testBit_shiftLeft]
  by_cases h : i < 8
  · simp [h, show ¬ 8 ≤ i by omega]
  · have : lo.toNat.testBit i = false :=
      Nat.testBit_lt_two_pow (lt_of_lt_of_le hlo (Nat.pow_le_pow_right (n := 2) (by norm_num) (by omega : 8 ≤ i)))
    simp [h, this, show 8 ≤ i by omega]

/-- A byte leaves another in the high half exactly when the two stood in the register. -/
theorem crcByte_eq_high_iff (r : BitVec 16) (hi lo : Byte) :
    crcByte r hi = lo.setWidth 16 <<< 8 ↔ r.toNat = hi.toNat * 256 + lo.toNat := by
  have hlo : lo.toNat < 256 := lo.isLt
  have low : crcShift^[8] (lo.setWidth 16) = lo.setWidth 16 <<< 8 := by
    apply BitVec.eq_of_toNat_eq
    rw [iterate_crcShift_of_small] <;> simp [Nat.shiftLeft_eq] <;> omega
  rw [crcByte_eq, ← low, (crcShift_injective.iterate 8).eq_iff, ← toNat_byte_xor_byte, BitVec.toNat_inj]
  constructor
  · intro h
    rw [← h, BitVec.xor_comm, BitVec.xor_assoc, BitVec.xor_self, BitVec.xor_zero]
  · intro h
    rw [h, BitVec.xor_comm, ← BitVec.xor_assoc, BitVec.xor_self, BitVec.zero_xor]

/-- Settles O5, by undoing the two bytes' shifts one after the other. -/
theorem crcResidueIsZeroExactlyForTheCrc : Obligations.CrcResidueIsZeroExactlyForTheCrc := by
  intro body hi lo
  rw [crc16, List.foldl_append]
  exact (crcByte_eq_zero_iff _ lo).trans (crcByte_eq_high_iff _ hi lo)

end Sys2Proof.Proofs
end

section
/-! PROOFS. The idle step, the reset, the timeouts of the framers and the transmit lines. -/

namespace Sys2Proof.Proofs

open Sys2Proof Sys2Proof.Machine Sys2Proof.Safety

/-! ### The idle step and the reset -/

/-- With no command waiting a millisecond passes. -/
theorem step_idle (s : State) (h : s.pending = []) : step s = .next s.tick := by
  rw [step, h]

/-- Settles O2: the model's tick, its timers written out. -/
theorem idleStepAdvancesOnlyTimers : Obligations.IdleStepAdvancesOnlyTimers := by
  intro s hs
  have hcommit : s.tables.commit.tick = (match s.tables.commit with
      | .quietWait limit elapsed => .quietWait limit (min (elapsed + 1) limit)
      | other => other) := by
    cases s.tables.commit <;> rfl
  rw [step_idle s hs, State.tick, hcommit]
  rfl

/-- Settles O4: the reset values, block by block. -/
theorem fullResetRestoresEveryBlock : Obligations.FullResetRestoresEveryBlock := fun _ _ => rfl

/-- Every context is FREE at reset (R97). -/
theorem ctx_reset (i : Fin 8) : State.reset.ctx i = none := by
  simp [State.ctx, State.reset, State.resetWith, Engine.reset, Vector.get]

/-- At reset the marks of the Table Bank agree (R141). -/
theorem bankFits_reset : BankFits State.reset := by decide

/-- Settles O54: at reset every buffer, ring and queue is empty, every detector OFF, every context FREE and no image
valid. -/
theorem resetMeetsTheInvariants : Obligations.ResetMeetsTheInvariants := by
  have cleared : BandFits PerComp.cleared := by decide
  have filters : FiltersFit State.reset := ⟨cleared, cleared, cleared⟩
  have bandsRest : OffBandsRest State.reset := ⟨fun b _ => by cases b <;> rfl, nofun⟩
  have off : DetectorFits Detector.off := by decide
  have detectors : DetectorsFit State.reset := ⟨off, off, off, off, off, off⟩
  have grids : GridsKept State.reset := by decide
  have heads : HeadsTogether State.reset := fun h => absurd rfl h
  have pool : PoolFits State.reset :=
    ⟨Nat.zero_le _, fun i c h => by simp [ctx_reset] at h, fun i j c d h => by simp [ctx_reset] at h⟩
  have legal : TablesLegal State.reset := ⟨bankFits_reset, by decide, nofun, fun h => absurd rfl h⟩
  have idle : DisarmedIsIdle State.reset :=
    ⟨bankFits_reset, fun _ => ⟨rfl, rfl, rfl, rfl, rfl, rfl, rfl, ctx_reset, rfl⟩⟩
  exact ⟨capacitiesHold_resetWith _ _, ⟨filters, bandsRest, detectors⟩, ⟨grids, heads⟩, pool, legal, idle⟩

/-! ### Byte timeouts (R12) -/

theorem execByteTimeout_of_not_expired (p : Port) (s : State) (h : timerExpired 5 (s.framer p).timer = false) :
    exec (.byteTimeout p) s = .next s := by
  simp [exec, execByteTimeout, Config.byteTimeoutMs, h]

theorem execByteTimeout_of_expired (p : Port) (s : State) (h : timerExpired 5 (s.framer p).timer = true) :
    exec (.byteTimeout p) s = .next (abandonHeld p s) := by
  simp [exec, execByteTimeout, Config.byteTimeoutMs, h]

/-- Settles O12, by whether the timer runs, has reached 5 ms, and the state of the framer. -/
theorem byteTimeoutAbandonsTheFrame : Obligations.ByteTimeoutAbandonsTheFrame := by
  intro p s f
  refine ⟨fun h => ?_, fun ms h => ⟨fun hms => ?_, fun hms hl => ?_, fun hms hl => ?_⟩⟩
  · exact execByteTimeout_of_not_expired p s (by rw [h, timerExpired_none])
  · exact execByteTimeout_of_not_expired p s (by rw [h, timerExpired_some, decide_eq_false_iff_not]; omega)
  · rw [execByteTimeout_of_expired p s (by rw [h, timerExpired_some, decide_eq_true_iff]; omega), abandonHeld, hl]
  · rw [execByteTimeout_of_expired p s (by rw [h, timerExpired_some, decide_eq_true_iff]; omega), abandonHeld, hl]

/-! ### The choice on LP_TXD (R15) -/

/-- The flags named by a position are in the order of their bits. -/
theorem exists_flag_bit (i : Nat) (h : i < 20) : ∃ f : Flag, f.bit = i := by
  refine ⟨flagOrder.getD i .lostLockSp, ?_⟩
  interval_cases i <;> rfl

/-- The attention bit: some flag is both latched and in the mask (R175). -/
theorem attention_iff (s : State) :
    s.attention = true ↔ ∃ f : Flag, flagSet s.status.flags f = true ∧ flagSet s.status.mask f = true := by
  rw [State.attention, decide_eq_true_eq]
  constructor
  · intro h
    by_contra hn
    apply h
    apply BitVec.eq_of_getLsbD_eq
    intro i hi
    obtain ⟨f, rfl⟩ := exists_flag_bit i hi
    have := fun hf hm => hn ⟨f, hf, hm⟩
    simpa [flagSet] using this
  · rintro ⟨f, hf, hm⟩ h
    have := congrArg (fun x => x.getLsbD f.bit) h
    simp only [flagSet] at hf hm
    simp [hf, hm] at this

/-- The bits of a byte made of at most eight bits. -/
theorem getLsbD_ofNat_bitsToNat (l : List Bool) (h : l.length ≤ 8) (i : Nat) :
    (BitVec.ofNat 8 (bitsToNat l)).getLsbD i = l.getD i false := by
  rw [BitVec.getLsbD_ofNat, bitsToNat_testBit]
  by_cases hi : i < 8
  · simp [hi]
  · simp [hi, List.getElem?_eq_none (show l.length ≤ i by omega)]

/-- The summary byte's bits (R7, R182). -/
theorem summary_getLsbD (s : State) (i : Nat) : s.summary.getLsbD i =
    [s.attention, decide (s.tables.picker = .running), s.atWatermark, s.commitPending].getD i false :=
  getLsbD_ofNat_bitsToNat _ (by simp) i

section
variable {s : State}

theorem chooseFrame_forward {frame : List Byte} {rest : List (List Byte)} (hq : s.link.forwardQ = frame :: rest) :
    chooseFrame s = startForward frame rest s := by
  simp only [chooseFrame, hq]

theorem chooseFrame_reply {r : Reply} {rest : List Reply} (hf : s.link.forwardQ = [])
    (hq : s.cmd.replies = r :: rest) : chooseFrame s = startReply r rest s := by
  simp only [chooseFrame, hf, hq]

theorem chooseFrame_report {n : NoiseReport} (hf : s.link.forwardQ = []) (hr : s.cmd.replies = [])
    (hq : s.status.slot = some n) : chooseFrame s = startReport n s := by
  simp only [chooseFrame, hf, hr, hq]

theorem chooseFrame_arrival {r : Record} {rest : List Record} (hf : s.link.forwardQ = []) (hr : s.cmd.replies = [])
    (hn : s.status.slot = none) (hm : s.arrivals.mode = .emit) (hq : s.arrivals.records = r :: rest) :
    chooseFrame s = startArrival r rest s := by
  simp only [chooseFrame, hf, hr, hn, hm, hq]

theorem chooseFrame_none (hf : s.link.forwardQ = []) (hr : s.cmd.replies = []) (hn : s.status.slot = none)
    (hq : s.arrivals.mode = .hold ∨ s.arrivals.records = []) : chooseFrame s = s := by
  obtain hm | hq := hq
  · simp only [chooseFrame, hf, hr, hn, hm]
  · cases hm : s.arrivals.mode <;> simp only [chooseFrame, hf, hr, hn, hm, hq]

end

/-- Settles O13: the bits one by one, and the choice source by source. -/
theorem egressChoiceTakesTheFirstSource : Obligations.EgressChoiceTakesTheFirstSource := by
  refine ⟨fun s i => ?_, fun s hline => ?_⟩
  · rw [summary_getLsbD]
    match i with
    | 0 => exact attention_iff s
    | 1 => exact decide_eq_true_iff
    | 2 => simp [State.atWatermark]
    | 3 => exact decide_eq_true_iff
    | _ + 4 => simp
  · have choice : exec .egressChoice s = .next (chooseFrame s) := by
      simp only [exec, execEgressChoice, hline]
    rw [choice]
    refine ⟨fun frame rest hq => ?_, fun r rest hf hq => ?_, fun n hf hr hq => ?_, fun r rest hf hr hn hm hq => ?_,
      fun hf hr hn hq => ?_⟩
    · rw [chooseFrame_forward hq]
      rfl
    · rw [chooseFrame_reply hf hq]
      rfl
    · rw [chooseFrame_report hf hr hq]
      rfl
    · rw [chooseFrame_arrival hf hr hn hm hq]
      rfl
    · rw [chooseFrame_none hf hr hn hq]

end Sys2Proof.Proofs
end

section
/-! PROOFS. A frame on a transmit line stays there as it is through every row but its departure and a full reset. -/

namespace Sys2Proof.Proofs

open Sys2Proof Sys2Proof.Machine Sys2Proof.Safety

/-- Both transmit lines hold what they held. -/
structure SameLines (s t : State) : Prop where
  lpLine : t.link.lpLine = s.link.lpLine
  spLine : t.link.spLine = s.link.spLine

theorem SameLines.of_link {s t : State} (h : t.link = s.link) : SameLines s t := ⟨by rw [h], by rw [h]⟩

/-! ### Framing -/

theorem setFramer_link (p : Port) (f : Framer) (s : State) : (s.setFramer p f).link = s.link := by
  cases p <;> rfl

theorem latchIf_link (s : State) (b : Bool) (f : Flag) : (s.latchIf b f).link = s.link := by
  cases b <;> rfl

theorem tally_link (p : Port) (a : Scan) (s : State) : (tally p a s).link = s.link := by
  simp only [tally, latchIf_link, bump_link, setFramer_link]

theorem sameLines_applyScan (p : Port) (a : Scan) (s : State) : SameLines s (applyScan p a s) := by
  have routed := sameOutsideRouting_routes p a.frames (tally p a s)
  rw [applyScan_eq]
  exact ⟨by rw [routed.lpLine, tally_link], by rw [routed.spLine, tally_link]⟩

theorem sameLines_judgeHeld (p : Port) (s : State) : SameLines s (judgeHeld p s) := by
  unfold judgeHeld
  split
  · exact sameLines_applyScan p _ s
  · exact ⟨rfl, rfl⟩

theorem sameLines_rxByte (p : Port) (b : Byte) (stop : StopBit) (was : Bool) (s : State) :
    EndsIn (SameLines s) (execRxByte p b stop was s) := by
  unfold execRxByte
  split
  · have judged := sameLines_judgeHeld p s
    have taken : SameLines (judgeHeld p s) (takeByte p b (judgeHeld p s)) := sameLines_applyScan p _ _
    refine endsIn_next ⟨?_, ?_⟩
    · rw [setFramer_link, taken.lpLine, judged.lpLine]
    · rw [setFramer_link, taken.spLine, judged.spLine]
  · exact endsIn_next ⟨rfl, rfl⟩

theorem sameLines_byteTimeout (p : Port) (s : State) : EndsIn (SameLines s) (execByteTimeout p s) := by
  unfold execByteTimeout
  split
  · refine endsIn_next (.of_link ?_)
    simp only [abandonHeld]
    split <;> simp only [latch_link, bump_link, setFramer_link]
  · exact endsIn_next ⟨rfl, rfl⟩

/-! ### The transmit lines' own rows (R14 to R16) -/

/-- SP_TXD, idle, takes the oldest upstream frame. -/
theorem execUpstreamFrameStart_idle {s : State} {frame : List Byte} {rest : List (List Byte)}
    (hline : s.link.spLine = none) (hq : s.link.upstreamQ = frame :: rest) :
    exec .upstreamFrameStart s =
      .next { s with link := { s.link with upstreamQ := rest, spLine := some ⟨frame, .upstream, false, 0⟩ } } := by
  simp only [exec, execUpstreamFrameStart, hline, hq]

/-- SP_TXD, busy, takes nothing. -/
theorem execUpstreamFrameStart_busy {s : State} {f : TxFrame} (hline : s.link.spLine = some f) :
    exec .upstreamFrameStart s = .next s := by
  simp only [exec, execUpstreamFrameStart, hline]

/-- A frame's departure frees SP_TXD and is counted. -/
theorem execUpstreamFrameSent_busy {s : State} {f : TxFrame} (hline : s.link.spLine = some f) :
    exec .upstreamFrameSent s = .next ({ s with link := { s.link with spLine := none } }.bump .framesForwarded 1) := by
  simp only [exec, execUpstreamFrameSent, hline]

/-- LP_TXD, busy, takes nothing. -/
theorem execEgressChoice_busy {s : State} {f : TxFrame} (hline : s.link.lpLine = some f) :
    exec .egressChoice s = .next s := by
  simp only [exec, execEgressChoice, hline]

/-- A frame's departure frees LP_TXD and is recorded. -/
theorem execEgressFrameSent_busy {s : State} {f : TxFrame} (straps : BitVec 2) (hline : s.link.lpLine = some f) :
    exec (.egressFrameSent straps) s =
      .next (recordSent straps f { s with link := { s.link with lpLine := none } }) := by
  simp only [exec, execEgressFrameSent, hline]

/-- The choice on LP_TXD leaves SP_TXD as it is. -/
theorem chooseFrame_spLine (s : State) : (chooseFrame s).link.spLine = s.link.spLine := by
  unfold chooseFrame
  split <;> rfl

/-- A departure on LP_TXD without a reset leaves SP_TXD as it is. -/
theorem recordSent_spLine (straps : BitVec 2) (f : TxFrame) (s : State) (h : f.resets = false) :
    (recordSent straps f s).link.spLine = s.link.spLine := by
  unfold recordSent
  rw [if_neg (by simp [h])]
  split <;> rfl

/-- A row leaves both lines alone, or is one of those that work on a line. -/
theorem exec_sameLines (c : Instr) (s : State) :
    EndsIn (SameLines s) (exec c s) ∨ (∃ straps, c = .fullReset straps) ∨ c = .upstreamFrameStart ∨
      c = .upstreamFrameSent ∨ c = .egressChoice ∨ ∃ straps, c = .egressFrameSent straps := by
  by_cases hc : onPorts c = false
  · exact .inl ((exec_samePorts c s hc).mono (fun _ k => .of_link k.link))
  · cases c with
    | fullReset straps => simp
    | rxByte p b stop was => exact .inl (sameLines_rxByte p b stop was s)
    | frameReceived p => exact .inl (endsIn_next (sameLines_judgeHeld p s))
    | byteTimeout p => exact .inl (sameLines_byteTimeout p s)
    | upstreamFrameStart => simp
    | upstreamFrameSent => simp
    | egressChoice => simp
    | egressFrameSent straps => simp
    | _ => exact absurd rfl hc

/-- A frame on LP_TXD stays there through every row but its departure and a full reset. -/
theorem exec_keeps_lpLine (c : Instr) (f : TxFrame) (s : State) (hreset : ∀ straps, c ≠ .fullReset straps)
    (hline : s.link.lpLine = some f) (hsent : ∀ straps, c ≠ .egressFrameSent straps) :
    EndsIn (fun t => t.link.lpLine = some f) (exec c s) := by
  obtain same | ⟨straps, rfl⟩ | rfl | rfl | rfl | ⟨straps, rfl⟩ := exec_sameLines c s
  · exact same.mono (fun _ k => k.lpLine.trans hline)
  · exact absurd rfl (hreset straps)
  · simp only [exec, execUpstreamFrameStart]
    split <;> exact endsIn_next hline
  · simp only [exec, execUpstreamFrameSent]
    split <;> exact endsIn_next hline
  · rw [execEgressChoice_busy hline]
    exact endsIn_next hline
  · exact absurd rfl (hsent straps)

/-- A frame on SP_TXD stays there through every row but its departure and a full reset. -/
theorem exec_keeps_spLine (c : Instr) (f : TxFrame) (s : State) (hreset : ∀ straps, c ≠ .fullReset straps)
    (hline : s.link.spLine = some f) (hsent : c ≠ .upstreamFrameSent)
    (hno : ∀ straps, c = .egressFrameSent straps → ∀ g, s.link.lpLine = some g → g.resets = false) :
    EndsIn (fun t => t.link.spLine = some f) (exec c s) := by
  obtain same | ⟨straps, rfl⟩ | rfl | rfl | rfl | ⟨straps, rfl⟩ := exec_sameLines c s
  · exact same.mono (fun _ k => k.spLine.trans hline)
  · exact absurd rfl (hreset straps)
  · rw [execUpstreamFrameStart_busy hline]
    exact endsIn_next hline
  · exact absurd rfl hsent
  · simp only [exec, execEgressChoice]
    split
    · exact endsIn_next hline
    · exact endsIn_next ((chooseFrame_spLine s).trans hline)
  · cases hlp : s.link.lpLine with
    | none =>
      simp only [exec, execEgressFrameSent, hlp]
      exact endsIn_next hline
    | some g =>
      rw [execEgressFrameSent_busy straps hlp]
      exact endsIn_next ((recordSent_spLine straps g _ (hno straps rfl g hlp)).trans hline)

/-- A millisecond keeps a frame's bytes and counts on its line. -/
theorem step_idle_lines (f : TxFrame) (s : State) (h : s.pending = []) : ∃ t, step s = .next t ∧
    (s.link.lpLine = some f → t.link.lpLine = some { f with ms := f.ms + 1 }) ∧
    (s.link.spLine = some f → t.link.spLine = some { f with ms := f.ms + 1 }) :=
  ⟨s.tick, step_idle s h, fun hf => by simp [State.tick, hf, TxFrame.tick],
    fun hf => by simp [State.tick, hf, TxFrame.tick]⟩

/-- Settles O14: the frames' stay, the millisecond, and the lines' own rows. -/
theorem linesSendTheirFramesWhole : Obligations.LinesSendTheirFramesWhole := by
  refine ⟨fun c f s hreset => ⟨fun hline hsent => exec_keeps_lpLine c f s hreset hline hsent,
    fun hline hsent hno => exec_keeps_spLine c f s hreset hline hsent hno⟩, step_idle_lines, ?_⟩
  intro straps f frame rest s
  refine ⟨execUpstreamFrameStart_idle, execUpstreamFrameSent_busy, fun hline => ?_⟩
  rw [execEgressFrameSent_busy straps hline]
  refine ⟨fun hr => ?_, fun hr hsource => ?_, fun hr hsource => ?_⟩
  · rw [recordSent, if_pos hr]
    rfl
  · rw [recordSent, if_neg (by simp [hr]), if_pos hsource]
  · rw [recordSent, if_neg (by simp [hr]), if_neg hsource]

end Sys2Proof.Proofs
end

section
/-! PROOFS. Where the fields of the part's own payloads stand (sections 11.2 to 11.4). -/

namespace Sys2Proof.Proofs

open Sys2Proof Sys2Proof.Machine Sys2Proof.Safety

/-! ### Bytes that stand at an offset -/

/-- The bytes `xs` stand in `p` from an offset onward. -/
def StandsAt (p : List Byte) (off : Nat) (xs : List Byte) : Prop := (p.drop off).take xs.length = xs

theorem StandsAt.getD {p xs : List Byte} {off i : Nat} (h : StandsAt p off xs) (hi : i < xs.length) :
    p.getD (off + i) 0 = xs.getD i 0 := by
  conv_rhs => rw [← h]
  simp [List.getD_eq_getElem?_getD, hi]

/-- A byte that stands at an offset. -/
theorem StandsAt.byte {p : List Byte} {off : Nat} {b : Byte} (h : StandsAt p off [b]) : p.getD off 0 = b :=
  h.getD Nat.zero_lt_one

/-- A field within bytes that stand at an offset. -/
theorem StandsAt.fieldAt {p xs : List Byte} {off : Nat} (h : StandsAt p off xs) (i len : Nat)
    (hi : i + len ≤ xs.length) : fieldAt p (off + i) len = Machine.fieldAt xs i len := by
  unfold Machine.fieldAt
  conv_rhs => rw [← h]
  rw [List.drop_take, List.take_take, List.drop_drop, Nat.min_eq_left (by omega)]

/-- A number that stands at an offset, cut to its field. -/
theorem StandsAt.number {p : List Byte} {off n v : Nat} (h : StandsAt p off (beBytes n v)) :
    Machine.fieldAt p off n = v % 2 ^ (8 * n) := by
  rw [StandsAt, beBytes_length] at h
  rw [Machine.fieldAt, h, beNat_beBytes, Nat.pow_mul]

/-- A number of one byte that stands at an offset. -/
theorem StandsAt.small {p : List Byte} {off v : Nat} (h : StandsAt p off [BitVec.ofNat 8 v]) :
    Machine.fieldAt p off 1 = v % 2 ^ 8 :=
  StandsAt.number (n := 1) (by simpa [beBytes] using h)

/-! ### Masks, flag words, peaks and detector entries -/

theorem bandMaskAt_of_standsAt {p : List Byte} {off : Nat} {m : PerBand Bool} (h : StandsAt p off [bandMaskByte m]) :
    BandMaskAt p off m := by
  intro i
  rw [h.byte]
  exact getLsbD_ofNat_bitsToNat _ (by simp) i

theorem flagWordAt_of_standsAt {p : List Byte} {off : Nat} {f : RecFlags}
    {long noContext incomplete single short : Bool}
    (h : StandsAt p off (flagWord f long noContext incomplete single short)) :
    FlagWordAt p off f long noContext incomplete single short := by
  intro i
  have hlt := bitsToNat_lt [f.truncated, f.bridged, f.clip.z, f.clip.n, f.clip.e, long, noContext, incomplete,
    single, short]
  rw [h.number, Nat.mod_eq_of_lt (hlt.trans (by norm_num)), bitsToNat_testBit]

theorem peakAt_of_standsAt {p : List Byte} {off : Nat} {c : Comp} {k : Peak} (h : StandsAt p off (peakBytes c k)) :
    PeakAt p off (Comp.code c) k :=
  ⟨h.getD (i := 0) (by simp [peakBytes]), (h.fieldAt 1 3 (by simp [peakBytes])).trans (StandsAt.number rfl),
    (h.fieldAt 4 4 (by simp [peakBytes])).trans (StandsAt.number rfl)⟩

theorem entryAt_of_standsAt {p : List Byte} {off : Nat} {d : DetReading} (h : StandsAt p off (readingBytes d)) :
    EntryAt p off d :=
  ⟨(h.getD (i := 0) (by simp [readingBytes])).trans (by cases d with | mk st _ _ => cases st <;> rfl),
    (h.fieldAt 1 4 (by simp [readingBytes])).trans (StandsAt.number rfl),
    (h.fieldAt 5 4 (by simp [readingBytes])).trans (StandsAt.number rfl)⟩

/-- The flags in their order are the bits of the flag word. -/
theorem getD_map_flagSet (flags : BitVec 20) (i : Nat) :
    (flagOrder.map (flagSet flags)).getD i false = flags.getLsbD i := by
  by_cases h : i < 20
  · interval_cases i <;> rfl
  · rw [BitVec.getLsbD_of_ge _ _ (by omega), List.getD_eq_default _ _ (by simpa [flagOrder] using h)]

theorem flagsAt_of_standsAt {p : List Byte} {off : Nat} {flags : BitVec 20} (h : StandsAt p off (maskBytes flags)) :
    FlagsAt p off flags := by
  intro i
  rw [h.number, Nat.mod_eq_of_lt (flags.isLt.trans (by norm_num)), getD_map_flagSet]
  rfl

/-! ### The payloads -/

/-- Settles O42, payload by payload: each field's bytes stand at its offset, and a code is one for each name. -/
theorem partPayloadsHaveTheirLengths : Obligations.PartPayloadsHaveTheirLengths := by
  refine ⟨fun bs b => ⟨rfl, by simp [beNat]⟩, fun o x c n r b => ⟨?onset, ?second, ?close, ?noise, ?reply⟩⟩
  case onset =>
    obtain ⟨event, slot, phase, time, quality, mask, kind, flags, noContext, incomplete, single, measurement⟩ := o
    refine ⟨?_, rfl, rfl, StandsAt.number rfl, StandsAt.small rfl, ?_, StandsAt.number rfl, StandsAt.small rfl,
      bandMaskAt_of_standsAt rfl, ?_, flagWordAt_of_standsAt rfl, ?_⟩
    · cases measurement <;> rfl
    · cases phase <;> rfl
    · cases kind <;> rfl
    · rintro ⟨polarity, clipped, ez, eh⟩ rfl
      refine ⟨fun _ => ?_, rfl, StandsAt.number rfl, StandsAt.number rfl⟩
      cases polarity <;> rfl
  case second =>
    exact ⟨rfl, rfl, rfl, StandsAt.number rfl, StandsAt.number rfl, StandsAt.small rfl, bandMaskAt_of_standsAt rfl,
      flagWordAt_of_standsAt rfl, StandsAt.number rfl, StandsAt.number rfl⟩
  case close =>
    obtain ⟨event, cause, duration, sPresent, sAbsent, secondaries, flags, long, short, peaks⟩ := c
    refine ⟨?_, rfl, rfl, StandsAt.number rfl, ?_, StandsAt.number rfl, getLsbD_ofNat_bitsToNat _ (by simp),
      StandsAt.small rfl, flagWordAt_of_standsAt rfl, ?_⟩
    · cases peaks <;> rfl
    · cases cause <;> rfl
    · rintro k rfl
      exact ⟨peakAt_of_standsAt (c := .z) rfl, peakAt_of_standsAt (c := .n) rfl, peakAt_of_standsAt (c := .e) rfl⟩
  case noise =>
    obtain ⟨picker, occupancy, flags, dets⟩ := n
    refine ⟨rfl, rfl, ?_, StandsAt.small rfl, flagsAt_of_standsAt rfl, entryAt_of_standsAt rfl, entryAt_of_standsAt rfl,
      entryAt_of_standsAt rfl, entryAt_of_standsAt rfl, entryAt_of_standsAt rfl, entryAt_of_standsAt rfl⟩
    cases picker <;> rfl
  case reply =>
    obtain ⟨tag, code, result, data, resets⟩ := r
    refine ⟨rfl, rfl, rfl, rfl, ?_, rfl⟩
    cases result <;> rfl

end Sys2Proof.Proofs
end

section
/-! PROOFS. What a framer's work comes to, move by move, and a byte received outside and inside a frame (R8 to R12). -/

namespace Sys2Proof.Proofs

open Sys2Proof Sys2Proof.Machine Sys2Proof.Safety

/-! ### Moves by the held bytes -/

/-- A framer's bytes before it works on them: nothing found yet. -/
def startOf (f : Framer) : Scan := ⟨f.lock, f.run, f.held, [], 0, 0, false⟩

theorem scan_eq (judging : Bool) (f : Framer) : f.scan judging = Scan.go judging f.held.length (startOf f) := rfl

section
variable {judging : Bool} {a b : Scan}

theorem move_nil (h : a.held = []) : a.move judging = none := by
  simp [Scan.move, h]

theorem move_stray {first : Byte} {rest : List Byte} (h : a.held = first :: rest) (hs : first ≠ sync0) :
    a.move judging = some a.discard := by
  simp [Scan.move, h, hs]

theorem move_sync0 (h : a.held = [sync0]) : a.move judging = none := by
  simp [Scan.move, h]

theorem move_notPair {second : Byte} {rest : List Byte} (h : a.held = sync0 :: second :: rest) (hs : second ≠ sync1) :
    a.move judging = some a.discard := by
  simp [Scan.move, h, hs]

/-- Behind a sync pair the framer waits for the judgement or for more. -/
theorem move_pair_waiting {rest : List Byte} (h : a.held = sync0 :: sync1 :: rest) : a.move false = none := by
  simp only [Scan.move, h, ne_eq, not_true_eq_false, if_false, Bool.false_and, Bool.false_eq_true]
  split <;> rfl

/-- A complete frame behind a sync pair is judged. -/
theorem move_pair_complete {rest : List Byte} {n : Nat} (h : a.held = sync0 :: sync1 :: rest)
    (hn : frameLength a.held = some n) (hle : n ≤ a.held.length) : a.move true = some (a.judge n) := by
  rw [h] at hn hle
  simp only [List.length_cons] at hle
  simp [Scan.move, h, hn, hle]

/-- Behind a sync pair the only move is the judgement of a complete frame. -/
theorem move_pair {rest : List Byte} (hh : a.held = sync0 :: sync1 :: rest)
    (h : a.move judging = some b) : ∃ n, frameLength a.held = some n ∧ n ≤ a.held.length ∧ b = a.judge n := by
  simp only [Scan.move, hh, ne_eq, not_true_eq_false, if_false] at h
  split at h
  · cases h
  · rename_i n hn
    split at h
    · rename_i hle
      rw [Bool.and_eq_true, decide_eq_true_eq] at hle
      cases h
      exact ⟨n, hh ▸ hn, hh ▸ hle.2, rfl⟩
    · cases h

/-- A frame is complete when its length byte has come and the bytes it asks for are held (R2). -/
theorem frameComplete_eq_true {held : List Byte} {n : Nat} (hn : frameLength held = some n) (hle : n ≤ held.length) :
    frameComplete held = true := by
  rw [frameComplete, hn]
  exact decide_eq_true hle

/-- Where no byte is to be discarded and no frame to be judged, the framer waits. -/
theorem move_true_of_waiting (h : a.move false = none) (hc : frameComplete a.held = false) : a.move true = none := by
  match hh : a.held with
  | [] => exact move_nil hh
  | first :: rest =>
    by_cases hf : first = sync0
    · subst hf
      match rest with
      | [] => exact move_sync0 hh
      | second :: tail =>
        by_cases hs : second = sync1
        · subst hs
          cases hm : a.move true with
          | none => rfl
          | some b =>
            obtain ⟨n, hn, hle, -⟩ := move_pair hh hm
            rw [frameComplete_eq_true hn hle] at hc
            cases hc
        · rw [move_notPair hh hs] at h
          cases h
    · rw [move_stray hh hf] at h
      cases h

theorem go_of_none (fuel : Nat) (h : a.move judging = none) : Scan.go judging fuel a = a := by
  cases fuel with
  | zero => rfl
  | succ n => simp only [Scan.go, h]

theorem go_of_some (fuel : Nat) (h : a.move judging = some b) :
    Scan.go judging (fuel + 1) a = Scan.go judging fuel b := by
  simp only [Scan.go, h]

end

/-- The first discard of a framer, whose run is 0 in HUNT. -/
theorem discard_start (f : Framer) (held : List Byte) (h : f.lock = .hunt → f.run = 0) :
    (startOf { f with held := held }).discard = ⟨.hunt, 0, held.tail, [], 1, 0, decide (f.lock = .locked)⟩ := by
  unfold startOf Scan.discard
  cases hl : f.lock with
  | hunt => simp [h hl]
  | locked => rfl

/-! ### Complete frames (R2) -/

theorem frameComplete_cons (x y kind len : Byte) (tail : List Byte) :
    frameComplete (x :: y :: kind :: len :: tail) = decide (len.toNat + 2 ≤ tail.length) := by
  simp [frameComplete, frameLength]

/-- The byte timer behind a sync pair: stopped once the frame is complete (R12). -/
theorem timerFor_pair (x y kind len : Byte) (tail : List Byte) :
    timerFor (x :: y :: kind :: len :: tail) = if len.toNat + 2 ≤ tail.length then none else some 0 := by
  simp [timerFor, frameComplete_cons]

/-! ### What a scan leaves in the state -/

theorem countersBounded_setFramer (p : Port) (f : Framer) (s : State) (h : CountersBounded s) :
    CountersBounded (s.setFramer p f) := by
  cases p <;> exact h

/-- A scan that finds no frame and no error: the framer, the bytes skipped and the flag. -/
theorem applyScan_quiet (p : Port) (a : Scan) (s : State) (h : CountersBounded s) (hf : a.frames = [])
    (hc : a.crcErrors = 0) : applyScan p a s =
      ((s.setFramer p (framerAfter a (s.framer p))).bump .bytesSkipped a.skipped).latchIf a.lost (lostLockFlag p) := by
  have hb : ∀ n, ((s.setFramer p (framerAfter a (s.framer p))).bump .bytesSkipped n).bump .crcErrors 0 =
      (s.setFramer p (framerAfter a (s.framer p))).bump .bytesSkipped n :=
    fun n => bump_zero _ _ (countersBounded_bump _ _ _ (countersBounded_setFramer _ _ _ h))
  rw [applyScan_eq, hf, List.foldl_nil, tally, hc, hb]
  rfl

/-- A scan that finds nothing at all: the framer alone. -/
theorem applyScan_silent (p : Port) (a : Scan) (s : State) (h : CountersBounded s) (hf : a.frames = [])
    (hc : a.crcErrors = 0) (hs : a.skipped = 0) (hl : a.lost = false) :
    applyScan p a s = s.setFramer p (framerAfter a (s.framer p)) := by
  rw [applyScan_quiet p a s h hf hc, hs, hl, bump_zero _ _ (countersBounded_setFramer _ _ _ h), latchIf_false]

theorem judgeHeld_of_incomplete (p : Port) (s : State) (h : frameComplete (s.framer p).held = false) :
    judgeHeld p s = s := by
  simp [judgeHeld, h]

/-! ### A byte received (R1, R10) -/

theorem execRxByte_blocked (p : Port) (b : Byte) (stop : StopBit) (s : State) (hw : (s.framer p).waitHigh = true) :
    exec (.rxByte p b stop false) s = .next s := by
  simp [exec, execRxByte, delivers, hw]

section
variable {p : Port} {b : Byte} {stop : StopBit} {was : Bool} {s : State}

/-- A byte that is delivered to a framer with no complete frame. -/
theorem execRxByte_delivered (hdel : (s.framer p).waitHigh = false ∨ was = true)
    (hc : frameComplete (s.framer p).held = false) :
    exec (.rxByte p b stop was) s = .next ((takeByte p b s).setFramer p
      { (takeByte p b s).framer p with waitHigh := decide (stop = .stillLow) }) := by
  have hd : delivers (s.framer p) was = true := by
    obtain h | h := hdel <;> simp [delivers, h]
  simp only [exec, execRxByte, hd, if_true, judgeHeld_of_incomplete p s hc]

theorem setFramer_bump (f : Framer) (k : Counter) (n : Nat) :
    (s.bump k n).setFramer p f = (s.setFramer p f).bump k n := by
  cases p <;> rfl

theorem setFramer_latchIf (f : Framer) (c : Bool) (g : Flag) :
    (s.latchIf c g).setFramer p f = (s.setFramer p f).latchIf c g := by
  cases p <;> cases c <;> rfl

/-- A byte whose scan finds no frame and no error. -/
theorem execRxByte_quiet (a : Scan) (hdel : (s.framer p).waitHigh = false ∨ was = true)
    (hc : frameComplete (s.framer p).held = false) (hb : CountersBounded s)
    (hscan : Framer.scan false { s.framer p with held := (s.framer p).held ++ [b] } = a) (hf : a.frames = [])
    (he : a.crcErrors = 0) :
    exec (.rxByte p b stop was) s = .next
      (((s.setFramer p { framerAfter a (s.framer p) with waitHigh := decide (stop = .stillLow) }).bump .bytesSkipped
        a.skipped).latchIf a.lost (lostLockFlag p)) := by
  have taken : takeByte p b s = applyScan p a s := by rw [takeByte, hscan]
  rw [execRxByte_delivered hdel hc, taken, framer_applyScan, applyScan_quiet p a s hb hf he, setFramer_latchIf,
    setFramer_bump, setFramer_setFramer]

/-- A byte that is held and starts no work. -/
theorem execRxByte_held (hdel : (s.framer p).waitHigh = false ∨ was = true)
    (hc : frameComplete (s.framer p).held = false) (hb : CountersBounded s)
    (hwait : (startOf { s.framer p with held := (s.framer p).held ++ [b] }).move false = none) :
    exec (.rxByte p b stop was) s = .next (s.setFramer p { s.framer p with
      held := (s.framer p).held ++ [b]
      timer := timerFor ((s.framer p).held ++ [b])
      waitHigh := decide (stop = .stillLow) }) := by
  rw [execRxByte_quiet _ hdel hc hb (scan_eq _ _) (by rw [go_of_none _ hwait]; rfl) (by rw [go_of_none _ hwait]; rfl),
    go_of_none _ hwait]
  simp only [startOf, latchIf_false]
  rw [bump_zero _ _ (countersBounded_setFramer _ _ _ hb)]
  rfl

end

section
variable {f : Framer} {b : Byte}

/-- A byte that begins no sync pair is discarded (R10). -/
theorem scan_stray (hrun : f.lock = .hunt → f.run = 0) (hh : f.held = []) (hb : b ≠ sync0) :
    Framer.scan false { f with held := f.held ++ [b] } = ⟨.hunt, 0, [], [], 1, 0, decide (f.lock = .locked)⟩ := by
  rw [hh, scan_eq, List.nil_append, List.length_singleton, go_of_some 0 (move_stray rfl hb), discard_start _ _ hrun]
  rfl

/-- Behind a lone 0xC9 a second one takes its place (R10). -/
theorem scan_sync0_sync0 (hrun : f.lock = .hunt → f.run = 0) (hh : f.held = [sync0]) :
    Framer.scan false { f with held := f.held ++ [sync0] } =
      ⟨.hunt, 0, [sync0], [], 1, 0, decide (f.lock = .locked)⟩ := by
  rw [hh, scan_eq]
  simp only [List.singleton_append, List.length_cons, List.length_nil]
  rw [go_of_some 1 (move_notPair rfl (by decide)), discard_start _ _ hrun, go_of_none 1 (move_sync0 rfl)]
  rfl

/-- Behind a lone 0xC9 any other byte but 0x36 goes with it (R10). -/
theorem scan_sync0_stray (hrun : f.lock = .hunt → f.run = 0) (hh : f.held = [sync0]) (h1 : b ≠ sync1) (h0 : b ≠ sync0) :
    Framer.scan false { f with held := f.held ++ [b] } = ⟨.hunt, 0, [], [], 2, 0, decide (f.lock = .locked)⟩ := by
  rw [hh, scan_eq]
  simp only [List.singleton_append, List.length_cons, List.length_nil]
  rw [go_of_some 1 (move_notPair rfl h1), discard_start _ _ hrun, go_of_some 0 (move_stray rfl h0)]
  rfl

end

/-- Settles O7, by what is held and whether the byte begins or continues a sync pair. -/
theorem rxByteOutsideAFrame : Obligations.RxByteOutsideAFrame := by
  intro p b stop was s
  refine ⟨fun hw hn => hn ▸ execRxByte_blocked p b stop s hw, ?_⟩
  intro hb hbounded hdel f wait strays
  have hrun : f.lock = .hunt → f.run = 0 := by
    cases p
    · exact hbounded.1.2.2
    · exact hbounded.2.2.2
  have incomplete : ∀ {held}, f.held = held → frameComplete held = false → frameComplete (s.framer p).held = false :=
    fun h hc => h ▸ hc
  refine ⟨fun hh hne => ?_, fun hh heq => ?_, fun hh heq => ?_, fun hh heq => ?_, fun hh hne1 hne0 => ?_⟩
  · exact execRxByte_quiet _ hdel (incomplete hh rfl) hb (scan_stray hrun hh hne) rfl rfl
  · subst heq
    rw [execRxByte_held hdel (incomplete hh rfl) hb (move_sync0 (by rw [hh]; rfl)), hh]
    rfl
  · subst heq
    rw [execRxByte_held hdel (incomplete hh rfl) hb (move_pair_waiting (rest := []) (by rw [hh]; rfl)), hh]
    rfl
  · subst heq
    exact execRxByte_quiet _ hdel (incomplete hh rfl) hb (scan_sync0_sync0 hrun hh) rfl rfl
  · exact execRxByte_quiet _ hdel (incomplete hh rfl) hb (scan_sync0_stray hrun hh hne1 hne0) rfl rfl

/-- Behind a sync pair fewer bytes than the length byte asks for are no complete frame (R2). -/
theorem not_frameComplete_pair (rest : List Byte)
    (h : ∀ kind len tail, rest = kind :: len :: tail → tail.length < len.toNat + 2) :
    frameComplete (sync0 :: sync1 :: rest) = false := by
  match rest with
  | [] | [_] => rfl
  | kind :: len :: tail =>
    have := h kind len tail rfl
    rw [frameComplete_cons, decide_eq_false_iff_not]
    omega

/-- Settles O8: behind a sync pair the byte is held, and whether the frame is then complete tells its timer. -/
theorem rxByteInsideAFrame : Obligations.RxByteInsideAFrame := by
  intro p b stop was rest s hb hdel hh hshort
  have timer : timerFor (sync0 :: sync1 :: (rest ++ [b])) = (match rest ++ [b] with
      | _ :: len :: tail => if tail.length = len.toNat + 2 then none else some 0
      | _ => some 0) := by
    match rest with
    | [] | [_] => rfl
    | kind :: len :: tail =>
      have := hshort kind len tail rfl
      simp only [List.cons_append, timerFor_pair, List.length_append, List.length_singleton]
      congr 1
      rw [eq_iff_iff]
      omega
  have held := execRxByte_held (b := b) (stop := stop) hdel (hh ▸ not_frameComplete_pair rest hshort) hb
    (move_pair_waiting (rest := rest ++ [b]) (by rw [hh]; rfl))
  rw [held, hh]
  exact congrArg (fun t => Host.Outcome.next (s.setFramer p { s.framer p with
    held := sync0 :: sync1 :: (rest ++ [b]), timer := t, waitHigh := decide (stop = .stillLow) })) timer

end Sys2Proof.Proofs
end

section
/-! PROOFS. The judgement of exactly one frame's bytes, and the routing of a good frame (R3 to R6, R9, R11). -/

namespace Sys2Proof.Proofs

open Sys2Proof Sys2Proof.Machine Sys2Proof.Safety

/-! ### The CRC check over a whole frame -/

/-- The check compares the CRC of kind, length and payload with the last two bytes (R3). -/
theorem crcGood_frame (x y kind len hi lo : Byte) (payload : List Byte) :
    crcGood (x :: y :: kind :: len :: (payload ++ [hi, lo])) =
      decide ((crc16 (kind :: len :: payload)).toNat = hi.toNat * 256 + lo.toNat) := by
  have hdrop : (x :: y :: kind :: len :: (payload ++ [hi, lo])).drop 2 = (kind :: len :: payload) ++ [hi, lo] := rfl
  have hlen : ((kind :: len :: payload) ++ [hi, lo]).length - 2 = (kind :: len :: payload).length := by simp
  simp only [crcGood, hdrop, hlen, List.take_left, List.drop_left, beNat_two]

/-- The length byte of a payload of at most 255 bytes (R2). -/
theorem lengthByte {payload : List Byte} (h : payload.length ≤ 255) :
    payload.length = (BitVec.ofNat 8 payload.length).toNat := by
  rw [BitVec.toNat_ofNat, Nat.mod_eq_of_lt (by omega)]

/-- A built frame, its CRC as two bytes. -/
theorem buildFrame_eq (kind : Byte) (payload : List Byte) : ∃ hi lo : Byte,
    (crc16 (kind :: BitVec.ofNat 8 payload.length :: payload)).toNat = hi.toNat * 256 + lo.toNat ∧
      buildFrame kind payload = sync0 :: sync1 :: kind :: BitVec.ofNat 8 payload.length :: (payload ++ [hi, lo]) := by
  have hcrc := (crc16 (kind :: BitVec.ofNat 8 payload.length :: payload)).isLt
  refine ⟨_, _, ?_, rfl⟩
  rw [← beNat_two]
  exact ((beNat_beBytes 2 _).trans (Nat.mod_eq_of_lt hcrc)).symm

/-! ### One frame judged -/

section
variable {f : Framer} {kind len hi lo : Byte} {payload : List Byte}

/-- The check fails on a frame with another CRC. -/
theorem crcGood_bad (hheld : f.held = sync0 :: sync1 :: kind :: len :: (payload ++ [hi, lo]))
    (hbad : ¬ (crc16 (kind :: len :: payload)).toNat = hi.toNat * 256 + lo.toNat) : crcGood f.held = false := by
  rw [hheld, crcGood_frame, decide_eq_false hbad]

variable (hlen : payload.length = len.toNat)
  (hheld : f.held = sync0 :: sync1 :: kind :: len :: (payload ++ [hi, lo]))
include hlen hheld

theorem frameComplete_frame : frameComplete f.held = true := by
  rw [hheld, frameComplete_cons]
  simp [hlen]

/-- The work on a frame's bytes begins with their judgement. -/
theorem scan_frame : f.scan true = Scan.go true (len.toNat + 5) ((startOf f).judge (len.toNat + 6)) := by
  have length : f.held.length = len.toNat + 6 := by simp [hheld, hlen]
  rw [scan_eq, length]
  exact go_of_some _ (move_pair_complete hheld (by simp [startOf, hheld, frameLength]) length.ge)

/-- The judgement of all the bytes held. -/
theorem judge_frame :
    (startOf f).held.take (len.toNat + 6) = f.held ∧ (startOf f).held.drop (len.toNat + 6) = [] := by
  have length : f.held.length = len.toNat + 6 := by simp [hheld, hlen]
  exact ⟨List.take_of_length_le length.le, List.drop_of_length_le length.le⟩

/-- A good frame is found whole (R11). -/
theorem scan_good (hgood : (crc16 (kind :: len :: payload)).toNat = hi.toNat * 256 + lo.toNat) :
    f.scan true = ⟨.locked, 0, [], [f.held], 0, 0, false⟩ := by
  obtain ⟨htake, hdrop⟩ := judge_frame hlen hheld
  have hcrc : crcGood f.held = true := by rw [hheld, crcGood_frame, decide_eq_true hgood]
  rw [scan_frame hlen hheld, Scan.judge, htake, if_pos hcrc, hdrop, go_of_none _ (move_nil rfl)]
  rfl

variable (hbad : ¬ (crc16 (kind :: len :: payload)).toNat = hi.toNat * 256 + lo.toNat)
include hbad

/-- A bad frame of a LOCKED framer with a run below 2 (R11). -/
theorem scan_bad (hl : f.lock = .locked) (hr : f.run < 2) :
    f.scan true = ⟨f.lock, f.run + 1, [], [], 0, 1, false⟩ := by
  obtain ⟨htake, hdrop⟩ := judge_frame hlen hheld
  have judged : (startOf f).judge (len.toNat + 6) = ⟨f.lock, f.run + 1, [], [], 0, 1, false⟩ := by
    simp only [Scan.judge, htake, hdrop, crcGood_bad hheld hbad]
    simp [startOf, hl, hr]
  rw [scan_frame hlen hheld, judged, go_of_none _ (move_nil rfl)]

/-- The third bad frame in a row of a LOCKED framer (R11). -/
theorem scan_bad_third (hl : f.lock = .locked) (hr : f.run = 2) :
    f.scan true = ⟨.hunt, 0, [], [], 0, 1, true⟩ := by
  obtain ⟨htake, hdrop⟩ := judge_frame hlen hheld
  have judged : (startOf f).judge (len.toNat + 6) = ⟨.hunt, 0, [], [], 0, 1, true⟩ := by
    simp only [Scan.judge, htake, hdrop, crcGood_bad hheld hbad]
    simp [startOf, hl, hr]
  rw [scan_frame hlen hheld, judged, go_of_none _ (move_nil rfl)]

/-- A bad candidate in HUNT loses its first byte, and the bytes behind it are worked (R9). -/
theorem scan_bad_hunt (hl : f.lock = .hunt) : f.scan true = Scan.go true (len.toNat + 5)
    ⟨.hunt, f.run, sync1 :: kind :: len :: (payload ++ [hi, lo]), [], 1, 0, false⟩ := by
  have judged : (startOf f).judge (len.toNat + 6) =
      ⟨.hunt, f.run, sync1 :: kind :: len :: (payload ++ [hi, lo]), [], 1, 0, false⟩ := by
    simp only [Scan.judge, (judge_frame hlen hheld).1, crcGood_bad hheld hbad]
    simp [startOf, Scan.discard, hl, hheld]
  rw [scan_frame hlen hheld, judged]

end

/-- In HUNT bytes without a 0xC9 are all discarded (R9). -/
theorem go_discards (judging : Bool) (run n : Nat) (held : List Byte) (h : sync0 ∉ held) :
    Scan.go judging held.length ⟨.hunt, run, held, [], n, 0, false⟩ =
      ⟨.hunt, run, [], [], n + held.length, 0, false⟩ := by
  induction held generalizing n with
  | nil => rfl
  | cons first rest ih =>
    rw [List.mem_cons, not_or] at h
    obtain ⟨hf, hrest⟩ := h
    rw [List.length_cons, go_of_some _ (move_stray rfl (Ne.symm hf)), Scan.discard]
    exact (ih (n + 1) hrest).trans (by rw [Nat.add_assoc, Nat.add_comm 1])

/-! ### FRAME_RECEIVED -/

/-- A scan that finds one CRC error and no frame (R11). -/
theorem applyScan_error (p : Port) (lock : Lock) (run : Nat) (lost : Bool) (s : State) (h : CountersBounded s) :
    applyScan p ⟨lock, run, [], [], 0, 1, lost⟩ s =
      (((s.setFramer p { s.framer p with lock := lock, run := run, held := [], timer := none }).bump .crcErrors 1).latch
        .crcError).latchIf lost (lostLockFlag p) := by
  rw [applyScan_eq, tally, bump_zero _ _ (countersBounded_setFramer _ _ _ h)]
  rfl

/-- A scan that finds one good frame and nothing else (R11). -/
theorem applyScan_good (p : Port) (frame : List Byte) (s : State) (h : CountersBounded s) :
    applyScan p ⟨.locked, 0, [], [frame], 0, 0, false⟩ s =
      route p frame (s.setFramer p { s.framer p with lock := .locked, run := 0, held := [], timer := none }) := by
  have hb := countersBounded_setFramer p (framerAfter ⟨.locked, 0, [], [frame], 0, 0, false⟩ (s.framer p)) s h
  rw [applyScan_eq, tally, bump_zero _ _ hb, bump_zero _ _ hb]
  rfl

section
variable {p : Port} {s : State} {kind len hi lo : Byte} {payload : List Byte}

theorem judgeHeld_complete (h : frameComplete (s.framer p).held = true) :
    judgeHeld p s = applyScan p ((s.framer p).scan true) s := by
  simp [judgeHeld, h]

/-- A frame with a good CRC is routed whole. -/
theorem judgeHeld_good (hb : CountersBounded s) (hlen : payload.length = len.toNat)
    (hheld : (s.framer p).held = sync0 :: sync1 :: kind :: len :: (payload ++ [hi, lo]))
    (hgood : (crc16 (kind :: len :: payload)).toNat = hi.toNat * 256 + lo.toNat) :
    judgeHeld p s = route p (s.framer p).held
      (s.setFramer p { s.framer p with lock := .locked, run := 0, held := [], timer := none }) := by
  rw [judgeHeld_complete (frameComplete_frame hlen hheld), scan_good hlen hheld hgood, applyScan_good p _ s hb]

end

/-- A built frame that is held is routed whole. -/
theorem judgeHeld_buildFrame (p : Port) (kind : Byte) (payload : List Byte) (s : State) (hp : payload.length ≤ 255)
    (hb : CountersBounded s) (hheld : (s.framer p).held = buildFrame kind payload) :
    judgeHeld p s = route p (buildFrame kind payload)
      (s.setFramer p { s.framer p with lock := .locked, run := 0, held := [], timer := none }) := by
  obtain ⟨hi, lo, hcrc, e⟩ := buildFrame_eq kind payload
  rw [judgeHeld_good hb (lengthByte hp) (hheld.trans e) hcrc, hheld]

/-! ### The routing of a good frame -/

/-- Settles O11: the routing of a good frame on the Logger port. -/
theorem goodLoggerFrameIsTakenOrRelayed : Obligations.GoodLoggerFrameIsTakenOrRelayed := by
  intro kind payload s hp hb hheld base
  obtain ⟨hpayload, hkind⟩ := framePayload_buildFrame kind payload
  have judged : exec (.frameReceived .lp) s = .next (routeLogger (buildFrame kind payload) base) :=
    congrArg _ (judgeHeld_buildFrame .lp kind payload s hp hb hheld)
  rw [judged, routeLogger, hkind, hpayload]
  rfl

/-- A field of one byte is that byte, 0 past the end. -/
theorem fieldAt_one (p : List Byte) (i : Nat) : fieldAt p i 1 = (p.getD i 0).toNat := by
  rw [fieldAt, List.getD_eq_getElem?_getD, ← List.head?_drop]
  cases p.drop i with
  | nil => rfl
  | cons b bs => simp

theorem channelMap_streamOf_ne_none_iff (m : ChannelMap) (id : Byte) :
    m.streamOf id ≠ none ↔ id = m.streams.z.id ∨ id = m.streams.n.id ∨ id = m.streams.e.id := by
  unfold ChannelMap.streamOf
  by_cases hz : id = m.streams.z.id
  · simp [hz]
  · rw [if_neg hz]
    by_cases hn : id = m.streams.n.id
    · simp [hn]
    · rw [if_neg hn]
      by_cases he : id = m.streams.e.id
      · simp [he]
      · simp [hz, hn, he]

/-- A channel is mapped when a map is active and one of its three streams has the id (R5). -/
theorem streamOf_ne_none_iff (s : State) (id : Byte) : s.streamOf id ≠ none ↔ s.tables.valid.chan = true ∧
    (id = s.tables.active.chan.getD 5 0 ∨ id = s.tables.active.chan.getD 10 0 ∨
      id = s.tables.active.chan.getD 15 0) := by
  unfold State.streamOf
  cases s.tables.valid.chan with
  | false => simp
  | true => exact (channelMap_streamOf_ne_none_iff s.chanMap id).trans (iff_and_self.mpr fun _ => rfl)

theorem examineSample_unmapped (payload : List Byte) (s : State)
    (h : ¬ (payload ≠ [] ∧ s.streamOf (payload.getD 0 0) ≠ none)) : examineSample payload s = s := by
  cases payload with
  | nil => rfl
  | cons id rest =>
    have hnone : s.streamOf id = none := by simpa using h
    simp only [examineSample, hnone]

theorem examineSample_mapped (payload : List Byte) (s : State) (hne : payload ≠ [])
    (h : s.streamOf (payload.getD 0 0) ≠ none) : examineSample payload s =
      if sampleWellFormed payload then s.toAssembler (.copy (readCopy payload))
      else (s.toAssembler (.malformed (payload.getD 0 0))).latch .sampleMalformed := by
  cases payload with
  | nil => exact absurd rfl hne
  | cons id rest =>
    obtain ⟨stream, hs⟩ := Option.ne_none_iff_exists'.mp h
    have hs' : s.streamOf id = some stream := hs
    simp only [examineSample, hs']
    rfl

/-- The copy that a SAMPLE payload gives, byte by byte (R5). -/
theorem readCopy_eq (payload : List Byte) : readCopy payload =
    ⟨payload.getD 0 0, (payload.getD 1 0).toNat, beNat ((payload.drop 3).take 8),
      (List.range (payload.getD 2 0).toNat).map (fun i => signed 24 (beNat ((payload.drop (11 + 3 * i)).take 3)))⟩ := by
  simp only [readCopy, readSamples, fieldAt_one]
  rfl

theorem sampleWellFormed_iff (payload : List Byte) : sampleWellFormed payload = true ↔
    3 ≤ payload.length ∧ 1 ≤ (payload.getD 2 0).toNat ∧ (payload.getD 2 0).toNat ≤ 64 ∧ (payload.getD 1 0).toNat ≤ 6 ∧
      payload.length = 11 + 3 * (payload.getD 2 0).toNat := by
  simp only [sampleWellFormed, fieldAt_one, decide_eq_true_eq]

/-- Settles O10: the offer, and the examination of a SAMPLE frame of a mapped channel. -/
theorem goodSensorFrameIsRelayedAndCopied : Obligations.GoodSensorFrameIsRelayedAndCopied := by
  intro kind payload s hp hb hheld frame id n mapped wellFormed copy base offered
  obtain ⟨hpayload, hkind⟩ := framePayload_buildFrame kind payload
  have judged : exec (.frameReceived .sp) s = .next (routeSensor frame base) :=
    congrArg _ (judgeHeld_buildFrame .sp kind payload s hp hb hheld)
  have hoffer : offerForward frame base = offered := rfl
  have same : SameOutsideRouting base offered := hoffer ▸ sameOutsideRouting_offerForward frame base
  have hasm : offered.asm = s.asm := by
    obtain ⟨-, e⟩ | ⟨-, e⟩ := offerForward_cases frame base <;> rw [← hoffer, e] <;> rfl
  have hmapped : mapped ↔ kind = kindSample ∧ payload ≠ [] ∧ offered.streamOf id ≠ none := by
    rw [streamOf_ne_none_iff, same.tables]
    rfl
  rw [judged, routeSensor, hkind, hpayload, hoffer]
  by_cases hm : mapped
  · obtain ⟨hk, hne, hstream⟩ := hmapped.mp hm
    rw [if_pos hk, if_pos hm, examineSample_mapped payload offered hne hstream, readCopy_eq, State.toAssembler,
      State.toAssembler, hasm]
    by_cases hw : wellFormed
    · rw [if_pos hw, if_pos ((sampleWellFormed_iff payload).mpr hw)]
    · rw [if_neg hw, if_neg (fun h => hw ((sampleWellFormed_iff payload).mp h))]
  · rw [if_neg hm]
    by_cases hk : kind = kindSample
    · rw [if_pos hk, examineSample_unmapped payload offered (fun h => hm (hmapped.mpr ⟨hk, h⟩))]
    · rw [if_neg hk]

end Sys2Proof.Proofs
end

section
/-! PROOFS. A framer's work does not depend on when its bytes come in: bytes fed one by one, each complete frame judged
before the next byte, come to what the work on all of them at once comes to (R9, R10; log entry 5). -/

namespace Sys2Proof.Proofs

open Sys2Proof Sys2Proof.Machine Sys2Proof.Safety

/-! ### Further bytes behind the held ones -/

/-- Bytes that come in behind the held ones. -/
def withMore (bs : List Byte) (a : Scan) : Scan := { a with held := a.held ++ bs }

theorem discard_withMore (bs : List Byte) (a : Scan) (h : a.held ≠ []) :
    (withMore bs a).discard = withMore bs a.discard := by
  simp only [Scan.discard, withMore, List.tail_append_of_ne_nil h]
  split <;> rfl

theorem judge_withMore (bs : List Byte) (a : Scan) {n : Nat} (hn : n ≤ a.held.length) (hne : a.held ≠ []) :
    (withMore bs a).judge n = withMore bs (a.judge n) := by
  have htake : (a.held ++ bs).take n = a.held.take n := List.take_append_of_le_length hn
  have hdrop : (a.held ++ bs).drop n = a.held.drop n ++ bs := List.drop_append_of_le_length hn
  obtain ⟨hg, e⟩ | ⟨hg, hl, e⟩ | ⟨hg, hl, hr, e⟩ | ⟨hg, hl, hr, e⟩ := judge_cases n a <;> rw [e]
  · simp only [Scan.judge, withMore, htake, hdrop, hg, if_true]
  · rw [← discard_withMore bs a hne]
    simp only [Scan.judge, withMore, htake, hg, hl, Bool.false_eq_true, if_false]
  · simp only [Scan.judge, withMore, htake, hdrop, hg, hl, hr, Bool.false_eq_true, if_false, if_true]
  · simp only [Scan.judge, withMore, htake, hdrop, hg, hl, Nat.not_lt.mpr hr, Bool.false_eq_true, if_false]

/-- A length byte once received stays (R2). -/
theorem frameLength_append {held : List Byte} (bs : List Byte) {n : Nat} (h : frameLength held = some n) :
    frameLength (held ++ bs) = some n := by
  match held, h with
  | _ :: _ :: _ :: _ :: _, h => exact h

/-- A move is the same with further bytes behind. -/
theorem move_withMore (bs : List Byte) {judging : Bool} {a b : Scan} (h : a.move judging = some b) :
    (withMore bs a).move true = some (withMore bs b) := by
  match hh : a.held with
  | [] =>
    rw [move_nil hh] at h
    cases h
  | first :: rest =>
    have hne : a.held ≠ [] := by simp [hh]
    have hmore : (withMore bs a).held = first :: (rest ++ bs) := by simp [withMore, hh]
    by_cases hf : first = sync0
    · subst hf
      match rest with
      | [] =>
        rw [move_sync0 hh] at h
        cases h
      | second :: tail =>
        by_cases hs : second = sync1
        · subst hs
          obtain ⟨n, hn, hle, rfl⟩ := move_pair hh h
          rw [move_pair_complete hmore (frameLength_append bs hn) (by simp [withMore]; omega),
            judge_withMore bs a hle hne]
        · rw [move_notPair hh hs] at h
          cases h
          rw [move_notPair hmore hs, discard_withMore bs a hne]
    · rw [move_stray hh hf] at h
      cases h
      rw [move_stray hmore hf, discard_withMore bs a hne]

/-! ### The end of the work -/

/-- A framer's bytes worked until it waits. -/
def finish (a : Scan) : Scan := Scan.go true a.held.length a

/-- Fuel beyond the bytes held makes no difference. -/
theorem go_fuel {judging : Bool} (m n : Nat) (a : Scan) (hm : a.held.length ≤ m) (hn : a.held.length ≤ n) :
    Scan.go judging m a = Scan.go judging n a := by
  induction m generalizing n a with
  | zero =>
    have hwait : a.move judging = none := move_nil (List.length_eq_zero_iff.mp (Nat.le_zero.mp hm))
    rw [go_of_none 0 hwait, go_of_none n hwait]
  | succ m ih =>
    cases hmove : a.move judging with
    | none => rw [go_of_none _ hmove, go_of_none _ hmove]
    | some b =>
      have hshorter := move_shorter judging a b hmove
      obtain ⟨k, rfl⟩ : ∃ k, n = k + 1 := ⟨n - 1, by omega⟩
      rw [go_of_some m hmove, go_of_some k hmove]
      exact ih k b (by omega) (by omega)

/-- A move leaves the end of the work as it is. -/
theorem finish_move {a b : Scan} (h : a.move true = some b) : finish a = finish b := by
  have hshorter := move_shorter true a b h
  obtain ⟨k, hk⟩ : ∃ k, a.held.length = k + 1 := ⟨a.held.length - 1, by omega⟩
  rw [finish, hk, go_of_some k h]
  exact go_fuel k _ b (by omega) (le_refl _)

/-- Work done before further bytes come in leaves the end of the work as it is. -/
theorem finish_withMore_go (bs : List Byte) (judging : Bool) (fuel : Nat) (a : Scan) :
    finish (withMore bs (Scan.go judging fuel a)) = finish (withMore bs a) := by
  induction fuel generalizing a with
  | zero => rfl
  | succ n ih =>
    cases h : a.move judging with
    | none => rw [go_of_none _ h]
    | some b => rw [go_of_some n h, ih b, ← finish_move (move_withMore bs h)]

/-! ### What was found before -/

/-- A scan on top of what an earlier one found. -/
def onTop (before a : Scan) : Scan :=
  { a with
    frames := before.frames ++ a.frames
    skipped := before.skipped + a.skipped
    crcErrors := before.crcErrors + a.crcErrors
    lost := before.lost || a.lost }

theorem discard_onTop (before a : Scan) : (onTop before a).discard = onTop before a.discard := by
  simp only [Scan.discard, onTop]
  split <;> simp [Nat.add_assoc]

theorem judge_onTop (before a : Scan) (n : Nat) : (onTop before a).judge n = onTop before (a.judge n) := by
  obtain ⟨hg, e⟩ | ⟨hg, hl, e⟩ | ⟨hg, hl, hr, e⟩ | ⟨hg, hl, hr, e⟩ := judge_cases n a <;> rw [e]
  · simp [Scan.judge, onTop, hg]
  · rw [← discard_onTop]
    simp [Scan.judge, onTop, hg, hl]
  · simp [Scan.judge, onTop, hg, hl, hr, Nat.add_assoc]
  · simp [Scan.judge, onTop, hg, hl, Nat.not_lt.mpr hr, Nat.add_assoc]

theorem move_onTop (judging : Bool) (before a : Scan) :
    (onTop before a).move judging = (a.move judging).map (onTop before) := by
  have hheld : (onTop before a).held = a.held := rfl
  simp only [Scan.move, hheld, discard_onTop, judge_onTop]
  split
  · rfl
  · split
    · rfl
    · split
      · rfl
      · split
        · rfl
        · split
          · rfl
          · split <;> rfl

theorem go_onTop (judging : Bool) (fuel : Nat) (before a : Scan) :
    Scan.go judging fuel (onTop before a) = onTop before (Scan.go judging fuel a) := by
  induction fuel generalizing a with
  | zero => rfl
  | succ n ih =>
    have hmove := move_onTop judging before a
    cases h : a.move judging with
    | none =>
      rw [h] at hmove
      rw [go_of_none _ h, go_of_none _ hmove]
    | some b =>
      rw [h] at hmove
      rw [go_of_some n h, go_of_some n hmove, ih b]

theorem finish_onTop (before a : Scan) : finish (onTop before a) = onTop before (finish a) :=
  go_onTop true _ before a

/-- A scan is what it found on top of which its bytes stand as if nothing had been found. -/
theorem onTop_fresh (a : Scan) : onTop a ⟨a.lock, a.run, a.held, [], 0, 0, false⟩ = a := by
  simp [onTop]

/-! ### Tallies and routing -/

/-- The flag's bit when its cause occurred. -/
def flagIf (c : Bool) (f : Flag) : BitVec 20 := if c then BitVec.ofNat 20 (2 ^ f.bit) else 0

theorem latchIf_eq_or (s : State) (c : Bool) (f : Flag) :
    s.latchIf c f = { s with status := { s.status with flags := s.status.flags ||| flagIf c f } } := by
  cases c
  · simp [flagIf]
  · rfl

theorem flagIf_or (c d : Bool) (f : Flag) : flagIf (c || d) f = flagIf c f ||| flagIf d f := by
  cases c <;> cases d <;> simp [flagIf]

/-- The flags that a scan's tally latches. -/
def tallyFlags (p : Port) (a : Scan) : BitVec 20 :=
  flagIf (decide (a.crcErrors ≠ 0)) .crcError ||| flagIf a.lost (lostLockFlag p)

/-- The counters after a scan's tally. -/
def tallyCounters (a : Scan) (c : Counters) : Counters := (c.bump .bytesSkipped a.skipped).bump .crcErrors a.crcErrors

/-- A tally sets the framer, the flags and the counters, and nothing else. -/
theorem tally_eq (p : Port) (a : Scan) (s : State) : tally p a s =
    { s.setFramer p (framerAfter a (s.framer p)) with status := { s.status with
      flags := s.status.flags ||| tallyFlags p a, counters := tallyCounters a s.status.counters } } := by
  rw [tally, latchIf_eq_or, latchIf_eq_or, tallyFlags, ← BitVec.or_assoc]
  cases p <;> rfl

theorem satAdd_satAdd (v m n : Nat) : satAdd (satAdd v m) n = satAdd v (m + n) := by
  unfold satAdd
  omega

theorem tallyFlags_onTop (p : Port) (a b : Scan) : tallyFlags p (onTop a b) = tallyFlags p a ||| tallyFlags p b := by
  have hcrc : decide ((onTop a b).crcErrors ≠ 0) = (decide (a.crcErrors ≠ 0) || decide (b.crcErrors ≠ 0)) := by
    rw [← Bool.decide_or]
    exact decide_eq_decide.mpr (by simp only [onTop]; omega)
  have hlost : (onTop a b).lost = (a.lost || b.lost) := rfl
  rw [tallyFlags, hcrc, hlost, flagIf_or, flagIf_or, tallyFlags, tallyFlags]
  ac_rfl

theorem tallyCounters_onTop (a b : Scan) (c : Counters) :
    tallyCounters (onTop a b) c = tallyCounters b (tallyCounters a c) := by
  simp only [tallyCounters, onTop, Counters.bump, satAdd_satAdd]

/-- The tally of a scan on top of another is the one tally after the other. -/
theorem tally_onTop (p : Port) (a b : Scan) (s : State) : tally p (onTop a b) s = tally p b (tally p a s) := by
  rw [tally_eq p (onTop a b), tally_eq p b, tally_eq p a, tallyFlags_onTop, tallyCounters_onTop, ← BitVec.or_assoc]
  cases p <;> rfl

theorem tally_latch (p : Port) (a : Scan) (s : State) (f : Flag) : tally p a (s.latch f) = (tally p a s).latch f := by
  rw [tally_eq, tally_eq]
  have hor : latchFlag s.status.flags f ||| tallyFlags p a = latchFlag (s.status.flags ||| tallyFlags p a) f := by
    unfold latchFlag
    ac_rfl
  cases p <;> simp only [State.latch, State.setFramer, hor] <;> rfl

theorem tally_framesDropped (p : Port) (a : Scan) (s : State) (n : Nat) :
    tally p a (s.bump .framesDropped n) = (tally p a s).bump .framesDropped n := by
  rw [tally_eq, tally_eq]
  cases p <;> rfl

theorem tally_withLink (p : Port) (a : Scan) (s : State) (l : Link) :
    tally p a { s with link := l } = { tally p a s with link := l } := by
  rw [tally_eq, tally_eq]
  cases p <;> rfl

theorem tally_withCmd (p : Port) (a : Scan) (s : State) (c : CommandUnit) :
    tally p a { s with cmd := c } = { tally p a s with cmd := c } := by
  rw [tally_eq, tally_eq]
  cases p <;> rfl

theorem tally_toAssembler (p : Port) (a : Scan) (s : State) (item : AsmItem) :
    tally p a (s.toAssembler item) = (tally p a s).toAssembler item := by
  rw [tally_eq, tally_eq]
  cases p <;> rfl

theorem tally_tables (p : Port) (a : Scan) (s : State) : (tally p a s).tables = s.tables := by
  rw [tally_eq]
  cases p <;> rfl

theorem tally_cmd (p : Port) (a : Scan) (s : State) : (tally p a s).cmd = s.cmd := by
  rw [tally_eq]
  cases p <;> rfl

theorem tally_streamOf (p : Port) (a : Scan) (s : State) (id : Byte) : (tally p a s).streamOf id = s.streamOf id := by
  simp only [State.streamOf, State.chanMap, tally_tables]

/-! ### A tally and the routing of a frame may change places -/

theorem offerForward_tally (p : Port) (a : Scan) (frame : List Byte) (s : State) :
    offerForward frame (tally p a s) = tally p a (offerForward frame s) := by
  simp only [offerForward, tally_link]
  split
  · exact (tally_withLink p a s _).symm
  · rw [tally_latch, tally_framesDropped]

theorem offerUpstream_tally (p : Port) (a : Scan) (frame : List Byte) (s : State) :
    offerUpstream frame (tally p a s) = tally p a (offerUpstream frame s) := by
  simp only [offerUpstream, tally_link]
  split
  · exact (tally_withLink p a s _).symm
  · rw [tally_latch, tally_framesDropped]

theorem examineSample_tally (p : Port) (a : Scan) (payload : List Byte) (s : State) :
    examineSample payload (tally p a s) = tally p a (examineSample payload s) := by
  unfold examineSample
  split
  · rfl
  · rw [tally_streamOf]
    split
    · rfl
    · split
      · rw [tally_toAssembler]
      · rw [tally_latch, tally_toAssembler]

theorem route_tally (p q : Port) (a : Scan) (frame : List Byte) (s : State) :
    route q frame (tally p a s) = tally p a (route q frame s) := by
  cases q with
  | sp =>
    simp only [route, routeSensor, offerForward_tally]
    split
    · rw [examineSample_tally]
    · rfl
  | lp =>
    simp only [route, routeLogger, offerUpstream_tally]
    split
    · rw [tally_cmd]
      exact (tally_withCmd p a s _).symm
    · rfl

theorem routes_tally (p : Port) (a : Scan) (frames : List (List Byte)) (s : State) :
    frames.foldl (fun s frame => route p frame s) (tally p a s) =
      tally p a (frames.foldl (fun s frame => route p frame s) s) := by
  induction frames generalizing s with
  | nil => rfl
  | cons frame rest ih => rw [List.foldl_cons, List.foldl_cons, route_tally, ih]

/-- A scan on top of another takes effect after it. -/
theorem applyScan_onTop (p : Port) (a b : Scan) (s : State) :
    applyScan p (onTop a b) s = applyScan p b (applyScan p a s) := by
  rw [applyScan_eq, applyScan_eq p b, applyScan_eq p a, tally_onTop, ← routes_tally, ← List.foldl_append]
  rfl

/-! ### Bytes fed one by one -/

/-- The state once a framer has worked on the bytes given, judging every frame. -/
def settle (p : Port) (held : List Byte) (s : State) : State :=
  applyScan p (Framer.scan true { s.framer p with held := held }) s

/-- Work on the first bytes may be done before the others come in. -/
theorem settle_append (p : Port) (judging : Bool) (held more : List Byte) (s : State) (a : Scan)
    (ha : Framer.scan judging { s.framer p with held := held } = a) :
    settle p (held ++ more) s = settle p (a.held ++ more) (applyScan p a s) := by
  have hstart : Framer.scan true { s.framer p with held := held ++ more } =
      finish (withMore more (startOf { s.framer p with held := held })) := rfl
  have hrest : Framer.scan true { (applyScan p a s).framer p with held := a.held ++ more } =
      finish ⟨a.lock, a.run, a.held ++ more, [], 0, 0, false⟩ := by
    rw [framer_applyScan]
    rfl
  have hsplit : withMore more a = onTop a ⟨a.lock, a.run, a.held ++ more, [], 0, 0, false⟩ :=
    (onTop_fresh (withMore more a)).symm
  rw [settle, settle, hrest, hstart, ← finish_withMore_go more judging held.length, ← applyScan_onTop, ← finish_onTop,
    ← hsplit, ← ha]
  rfl

/-- A framer that waits, its timer as its bytes have it, has settled. -/
theorem settle_of_waiting (p : Port) (s : State) (hb : CountersBounded s)
    (hwait : (startOf (s.framer p)).move true = none) (ht : (s.framer p).timer = timerFor (s.framer p).held) :
    settle p (s.framer p).held s = s := by
  have hscan : Framer.scan true { s.framer p with held := (s.framer p).held } = startOf (s.framer p) :=
    go_of_none _ hwait
  have hframer : framerAfter (startOf (s.framer p)) (s.framer p) = s.framer p := by
    simp only [framerAfter, startOf, ← ht]
  rw [settle, hscan, applyScan_silent p _ s hb rfl rfl rfl rfl, hframer, setFramer_framer]

/-- Routing keeps the counters bounded. -/
theorem countersBounded_route (p : Port) (frame : List Byte) (s : State) (h : CountersBounded s) :
    CountersBounded (route p frame s) := by
  have examined : ∀ payload u, CountersBounded u → CountersBounded (examineSample payload u) := by
    intro payload u hu
    unfold examineSample
    split
    · exact hu
    · split
      · exact hu
      · split <;> exact hu
  have offered : CountersBounded (offerForward frame s) := by
    obtain ⟨-, e⟩ | ⟨-, e⟩ := offerForward_cases frame s <;> rw [e]
    · exact h
    · exact countersBounded_bump s _ _ h
  cases p with
  | sp =>
    simp only [route, routeSensor]
    split
    · exact examined _ _ offered
    · exact offered
  | lp =>
    simp only [route, routeLogger]
    split
    · exact h
    · obtain ⟨-, e⟩ | ⟨-, e⟩ := offerUpstream_cases frame s <;> rw [e]
      · exact h
      · exact countersBounded_bump s _ _ h

theorem countersBounded_applyScan (p : Port) (a : Scan) (s : State) (h : CountersBounded s) :
    CountersBounded (applyScan p a s) := by
  have tallied : CountersBounded (tally p a s) := by
    simp only [tally, latchIf_eq_or]
    exact countersBounded_bump _ _ _ (countersBounded_bump _ _ _ (countersBounded_setFramer p _ s h))
  exact foldl_keeps (fun u frame => countersBounded_route p frame u) a.frames tallied

/-- After a scan the framer waits or stands before a judgement. -/
theorem startOf_applyScan_waits (p : Port) (judging : Bool) (s : State) (f : Framer) :
    (startOf ((applyScan p (f.scan judging) s).framer p)).move judging = none := by
  have hwait : (f.scan judging).move judging = none := go_waits judging _ _ (le_refl _)
  rw [← onTop_fresh (f.scan judging), move_onTop, Option.map_eq_none_iff] at hwait
  rw [framer_applyScan]
  exact hwait

/-- The judgement of what is held, before further bytes come in. -/
theorem settle_judgeHeld (p : Port) (more : List Byte) (s : State) :
    settle p (((judgeHeld p s).framer p).held ++ more) (judgeHeld p s) = settle p ((s.framer p).held ++ more) s := by
  unfold judgeHeld
  split
  · rw [settle_append p true (s.framer p).held more s _ rfl, framer_applyScan]
    rfl
  · rfl

/-- A byte taken, before further bytes come in. -/
theorem settle_takeByte (p : Port) (b : Byte) (more : List Byte) (s : State) :
    settle p (((takeByte p b s).framer p).held ++ more) (takeByte p b s) =
      settle p ((s.framer p).held ++ b :: more) s := by
  rw [← List.singleton_append, ← List.append_assoc, settle_append p false ((s.framer p).held ++ [b]) more s _ rfl,
    takeByte, framer_applyScan]
  rfl

/-- Bytes fed one by one and then judged come to the work on all of them at once. -/
theorem feed_judged (p : Port) (bs : List Byte) (s : State) (hb : CountersBounded s)
    (hw : (s.framer p).waitHigh = false) (hwait : (startOf (s.framer p)).move false = none)
    (ht : bs = [] → (s.framer p).timer = timerFor (s.framer p).held) :
    ∃ t, feed p bs s = .next t ∧ judgeHeld p t = settle p ((s.framer p).held ++ bs) s := by
  induction bs generalizing s with
  | nil =>
    refine ⟨s, rfl, ?_⟩
    rw [List.append_nil]
    by_cases hc : frameComplete (s.framer p).held = true
    · exact judgeHeld_complete hc
    · have hc' : frameComplete (s.framer p).held = false := by simpa using hc
      rw [judgeHeld_of_incomplete p s hc', settle_of_waiting p s hb (move_true_of_waiting hwait hc') (ht rfl)]
  | cons b rest ih =>
    have hbu : CountersBounded (judgeHeld p s) := by
      unfold judgeHeld
      split
      · exact countersBounded_applyScan p _ s hb
      · exact hb
    have hwu : ((judgeHeld p s).framer p).waitHigh = false := by
      unfold judgeHeld
      split
      · rw [framer_applyScan]
        exact hw
      · exact hw
    have hwv : ((takeByte p b (judgeHeld p s)).framer p).waitHigh = false := by
      rw [takeByte, framer_applyScan]
      exact hwu
    obtain ⟨t, hfeed, hjudged⟩ := ih (takeByte p b (judgeHeld p s)) (countersBounded_applyScan p _ _ hbu) hwv
      (startOf_applyScan_waits p false _ _) (fun _ => by rw [takeByte, framer_applyScan]; rfl)
    refine ⟨t, ?_, ?_⟩
    · have hexec : exec (.rxByte p b .high true) s = .next (takeByte p b (judgeHeld p s)) := by
        have hkeep : ((takeByte p b (judgeHeld p s)).setFramer p
            { (takeByte p b (judgeHeld p s)).framer p with waitHigh := decide (StopBit.high = .stillLow) }) =
            takeByte p b (judgeHeld p s) := by
          rw [show decide (StopBit.high = .stillLow) = ((takeByte p b (judgeHeld p s)).framer p).waitHigh by
            rw [hwv]; rfl]
          exact setFramer_framer _ p
        simp only [exec, execRxByte, delivers, Bool.or_true, if_true, hkeep]
      rw [feed, hexec]
      exact hfeed
    · rw [hjudged, settle_takeByte, settle_judgeHeld]

end Sys2Proof.Proofs
end

section
/-! PROOFS. A built frame received byte by byte, and what FRAME_RECEIVED makes of exactly one frame's bytes. -/

namespace Sys2Proof.Proofs

open Sys2Proof Sys2Proof.Machine Sys2Proof.Safety

/-- Settles O6: fed byte by byte, the frame comes to the work on the whole frame, which is one good judgement. -/
theorem builtFrameIsReceivedGood : Obligations.BuiltFrameIsReceivedGood := by
  intro p kind payload s hp hb hheld hw
  obtain ⟨t, hfeed, hjudged⟩ := feed_judged p (buildFrame kind payload) s hb hw (move_nil hheld) nofun
  refine ⟨t, hfeed, congrArg _ (hjudged.trans ?_)⟩
  obtain ⟨hi, lo, hcrc, e⟩ := buildFrame_eq kind payload
  rw [hheld, List.nil_append, settle, scan_good (lengthByte hp) e hcrc, applyScan_good p _ s hb]
  simp only [hw]

/-- A bad candidate in HUNT comes to its first byte discarded and the bytes behind it fed anew (R9). -/
theorem judgeHeld_rescan {p : Port} {s : State} {kind len hi lo : Byte} {payload : List Byte} (hb : CountersBounded s)
    (hlen : payload.length = len.toNat)
    (hheld : (s.framer p).held = sync0 :: sync1 :: kind :: len :: (payload ++ [hi, lo]))
    (hbad : ¬ (crc16 (kind :: len :: payload)).toNat = hi.toNat * 256 + lo.toNat) (hl : (s.framer p).lock = .hunt)
    (hr : (s.framer p).run = 0) (hw : (s.framer p).waitHigh = false) :
    judgeHeld p s = settle p (sync1 :: kind :: len :: (payload ++ [hi, lo]))
      ((s.setFramer p ⟨.hunt, 0, [], none, false⟩).bump .bytesSkipped 1) := by
  have discarded : applyScan p ⟨.hunt, 0, [], [], 1, 0, false⟩ s =
      (s.setFramer p ⟨.hunt, 0, [], none, false⟩).bump .bytesSkipped 1 := by
    rw [applyScan_quiet p _ s hb rfl rfl, framerAfter, hw]
    rfl
  have behind : (s.framer p).scan true = onTop ⟨.hunt, 0, [], [], 1, 0, false⟩
      (finish ⟨.hunt, 0, sync1 :: kind :: len :: (payload ++ [hi, lo]), [], 0, 0, false⟩) := by
    rw [scan_bad_hunt hlen hheld hbad hl, hr, ← finish_onTop]
    exact go_fuel _ _ _ (by simp [hlen]) (le_refl _)
  rw [judgeHeld_complete (frameComplete_frame hlen hheld), behind, applyScan_onTop, discarded, settle, framer_bump,
    framer_setFramer]
  rfl

/-- Settles O9, by the CRC, the state of the framer and its run. -/
theorem frameReceivedJudgesByCrc : Obligations.FrameReceivedJudgesByCrc := by
  intro p kind len hi lo payload s hb hbounded hlen hheld f good
  have hrun : f.lock = .hunt → f.run = 0 := by
    cases p
    · exact hbounded.1.2.2
    · exact hbounded.2.2.2
  have complete := judgeHeld_complete (frameComplete_frame hlen hheld)
  refine ⟨fun hgood => ?_, fun hbad hl hr => ?_, fun hbad hl hr => ?_, fun hbad hl hno => ?_, fun hbad hl hw => ?_⟩
  · exact congrArg _ (judgeHeld_good hb hlen hheld hgood)
  · refine congrArg _ (complete.trans ?_)
    rw [scan_bad hlen hheld hbad hl hr, applyScan_error p _ _ _ s hb, latchIf_false]
  · refine congrArg _ (complete.trans ?_)
    rw [scan_bad_third hlen hheld hbad hl hr, applyScan_error p _ _ _ s hb, latchIf_true]
  · refine congrArg _ (complete.trans ?_)
    have hcount : (sync1 :: kind :: len :: (payload ++ [hi, lo])).length = len.toNat + 5 := by simp [hlen]
    have discarded := go_discards true f.run 1 (sync1 :: kind :: len :: (payload ++ [hi, lo]))
      (List.not_mem_cons_of_ne_of_not_mem (by decide) hno)
    rw [hcount, show 1 + (len.toNat + 5) = len.toNat + 6 by omega] at discarded
    rw [scan_bad_hunt hlen hheld hbad hl, discarded, applyScan_quiet p _ s hb rfl rfl, latchIf_false, framerAfter, ← hl]
    rfl
  · obtain ⟨t, hfeed, hjudged⟩ := feed_judged p (sync1 :: kind :: len :: (payload ++ [hi, lo]))
      ((s.setFramer p ⟨.hunt, 0, [], none, false⟩).bump .bytesSkipped 1)
      (countersBounded_bump _ _ _ (countersBounded_setFramer _ _ _ hb)) (by simp) (move_nil (by simp [startOf])) nofun
    rw [framer_bump, framer_setFramer, List.nil_append] at hjudged
    exact ⟨t, hfeed, congrArg Host.Outcome.next
      ((judgeHeld_rescan hb hlen hheld hbad hl (hrun hl) hw).trans hjudged.symm)⟩

end Sys2Proof.Proofs
end

section
/-! PROOFS. The walk through every row of the table for the conditions on the tables, the alignment buffers and what is
on its way through the picking blocks: a row that leaves these as they are keeps every such condition, and what is left are
the operations of the assembler, the reports, and the commands of the Table Bank. -/

namespace Sys2Proof.Proofs

open Sys2Proof Sys2Proof.Machine Sys2Proof.Safety

/-! ### What most rows leave as it is -/

/-- Nothing is on its way through the picking blocks, nothing is held of an earlier triad, and the active images are as
after a full reset (R35, R97, R141). -/
structure NothingPicked (s : State) : Prop where
  active : s.tables.active = PerTable.zeros
  bank : s.bank.inbox = []
  array : s.array.inbox = []
  engine : s.engine.inbox = []
  dets : s.array.dets = PerDet.of (fun _ => .off)
  pool : ∀ i, s.ctx i = none
  records : s.arrivals.records = []

/-- `t` has the alignment buffers and the tables of `s`, and when nothing was picked in `s` nothing is in `t`. -/
structure SameCore (s t : State) : Prop where
  phase : t.asm.phase = s.asm.phase
  comps : t.asm.comps = s.asm.comps
  shadow : t.tables.shadow = s.tables.shadow
  active : t.tables.active = s.tables.active
  valid : t.tables.valid = s.tables.valid
  commit : t.tables.commit = s.tables.commit
  picker : t.tables.picker = s.tables.picker
  picked : NothingPicked s → NothingPicked t

theorem SameCore.refl (s : State) : SameCore s s := ⟨rfl, rfl, rfl, rfl, rfl, rfl, rfl, id⟩

theorem SameCore.after {s t u : State} (k : SameCore t u) (h : SameCore s t) : SameCore s u :=
  ⟨k.phase.trans h.phase, k.comps.trans h.comps, k.shadow.trans h.shadow, k.active.trans h.active,
    k.valid.trans h.valid, k.commit.trans h.commit, k.picker.trans h.picker, k.picked ∘ h.picked⟩

theorem SameCore.trans {s t u : State} (h : SameCore s t) (k : SameCore t u) : SameCore s u :=
  k.after h

/-- A row that touches nothing of the relation. -/
theorem sameCore_of_same {s t : State} (hphase : t.asm.phase = s.asm.phase := by rfl)
    (hcomps : t.asm.comps = s.asm.comps := by rfl) (hshadow : t.tables.shadow = s.tables.shadow := by rfl)
    (hactive : t.tables.active = s.tables.active := by rfl) (hvalid : t.tables.valid = s.tables.valid := by rfl)
    (hcommit : t.tables.commit = s.tables.commit := by rfl) (hpicker : t.tables.picker = s.tables.picker := by rfl)
    (hbank : t.bank.inbox = s.bank.inbox := by rfl) (harray : t.array.inbox = s.array.inbox := by rfl)
    (hengine : t.engine.inbox = s.engine.inbox := by rfl) (hdets : t.array.dets = s.array.dets := by rfl)
    (hpool : t.engine.pool = s.engine.pool := by rfl)
    (hrecords : t.arrivals.records = s.arrivals.records := by rfl) : SameCore s t :=
  ⟨hphase, hcomps, hshadow, hactive, hvalid, hcommit, hpicker, fun h =>
    ⟨hactive.trans h.active, hbank.trans h.bank, harray.trans h.array, hengine.trans h.engine, hdets.trans h.dets,
      fun i => by simpa only [State.ctx, hpool] using h.pool i, hrecords.trans h.records⟩⟩

theorem sameCore_latch (s : State) (f : Flag) : SameCore s (s.latch f) := sameCore_of_same

theorem sameCore_latchIf (s : State) (b : Bool) (f : Flag) : SameCore s (s.latchIf b f) := by
  cases b
  · exact .refl s
  · exact sameCore_latch s f

theorem sameCore_bump (s : State) (k : Counter) (n : Nat) : SameCore s (s.bump k n) := sameCore_of_same

/-! ### Framing -/

theorem sameCore_setFramer (p : Port) (f : Framer) (s : State) : SameCore s (s.setFramer p f) := by
  cases p
  · exact sameCore_of_same
  · exact sameCore_of_same

theorem sameCore_tally (p : Port) (a : Scan) (s : State) : SameCore s (tally p a s) :=
  ((((sameCore_setFramer p _ s).trans (sameCore_bump _ _ _)).trans (sameCore_bump _ _ _)).trans
    (sameCore_latchIf _ _ _)).trans (sameCore_latchIf _ _ _)

theorem sameCore_of_sameOutsideRouting {s t : State} (h : SameOutsideRouting s t) : SameCore s t :=
  sameCore_of_same h.phase h.comps (by rw [h.tables]) (by rw [h.tables]) (by rw [h.tables]) (by rw [h.tables])
    (by rw [h.tables]) (by rw [h.bank]) (by rw [h.array]) (by rw [h.engine]) (by rw [h.array]) (by rw [h.engine])
    (by rw [h.arrivals])

theorem sameCore_applyScan (p : Port) (a : Scan) (s : State) : SameCore s (applyScan p a s) := by
  rw [applyScan_eq]
  exact (sameCore_tally p a s).trans (sameCore_of_sameOutsideRouting (sameOutsideRouting_routes p _ _))

theorem sameCore_judgeHeld (p : Port) (s : State) : SameCore s (judgeHeld p s) := by
  unfold judgeHeld
  split
  · exact sameCore_applyScan p _ s
  · exact .refl s

theorem sameCore_rxByte (p : Port) (b : Byte) (stop : StopBit) (was : Bool) (s : State) :
    EndsIn (SameCore s) (execRxByte p b stop was s) := by
  unfold execRxByte
  split
  · exact endsIn_next (((sameCore_judgeHeld p s).trans (sameCore_applyScan p _ _)).trans (sameCore_setFramer p _ _))
  · exact endsIn_next (.refl s)

theorem sameCore_byteTimeout (p : Port) (s : State) : EndsIn (SameCore s) (execByteTimeout p s) := by
  unfold execByteTimeout
  split
  · refine endsIn_next ?_
    simp only [abandonHeld]
    split
    · exact (((sameCore_setFramer p _ s).trans (sameCore_bump _ _ _)).trans (sameCore_latch _ _)).trans
        (sameCore_latch _ _)
    · exact (sameCore_setFramer p _ s).trans (sameCore_bump _ _ _)
  · exact endsIn_next (.refl s)

/-! ### The transmit lines and the timers -/

theorem sameCore_upstreamFrameStart (s : State) : EndsIn (SameCore s) (execUpstreamFrameStart s) := by
  unfold execUpstreamFrameStart
  split
  · exact endsIn_next sameCore_of_same
  · exact endsIn_next (.refl s)

theorem sameCore_upstreamFrameSent (s : State) : EndsIn (SameCore s) (execUpstreamFrameSent s) := by
  unfold execUpstreamFrameSent
  split
  · exact endsIn_next (.refl s)
  · exact endsIn_next sameCore_of_same

/-- A record may leave the Arrival Queue for the line, which adds none. -/
theorem sameCore_chooseFrame (s : State) : SameCore s (chooseFrame s) := by
  unfold chooseFrame
  split
  · exact sameCore_of_same
  · exact sameCore_of_same
  · exact sameCore_of_same
  · rename_i hrecords
    refine ⟨rfl, rfl, rfl, rfl, rfl, rfl, rfl, fun h => ?_⟩
    rw [h.records] at hrecords
    cases hrecords
  · exact .refl s
  · exact .refl s

theorem sameCore_egressChoice (s : State) : EndsIn (SameCore s) (execEgressChoice s) := by
  unfold execEgressChoice
  split
  · exact endsIn_next (.refl s)
  · exact endsIn_next (sameCore_chooseFrame s)

theorem sameCore_noiseTimerExpiry (s : State) : EndsIn (SameCore s) (execNoiseTimerExpiry s) := by
  unfold execNoiseTimerExpiry
  split
  · exact endsIn_next sameCore_of_same
  · exact endsIn_next (.refl s)

theorem sameCore_stallTimerExpiry (stream : Comp) (s : State) :
    EndsIn (SameCore s) (execStallTimerExpiry stream s) := by
  unfold execStallTimerExpiry
  split
  · exact endsIn_next sameCore_of_same
  · exact endsIn_next (.refl s)

/-! ### Filters and detectors -/

/-- With triads before the bank something is on its way, and else the row does nothing. -/
theorem sameCore_filterTriad (s : State) : EndsIn (SameCore s) (execFilterTriad s) := by
  unfold execFilterTriad
  split
  · rename_i hinbox _
    refine endsIn_next ((sameCore_latchIf _ _ _).after ⟨rfl, rfl, rfl, rfl, rfl, rfl, rfl, fun h => ?_⟩)
    rw [h.bank] at hinbox
    cases hinbox
  · exact endsIn_next (.refl s)

/-- With filtered triads before the array something is on its way, and else the row does nothing. -/
theorem sameCore_detectorTriad (s : State) : EndsIn (SameCore s) (execDetectorTriad s) := by
  unfold execDetectorTriad
  split
  · rename_i hinbox _ _
    refine endsIn_next ((sameCore_latchIf _ _ _).after ((sameCore_bump _ _ _).after
      ⟨rfl, rfl, rfl, rfl, rfl, rfl, rfl, fun h => ?_⟩))
    rw [h.array] at hinbox
    cases hinbox
  · exact endsIn_next (.refl s)

/-- Under the Band Table of a full reset no detector runs (R39). -/
theorem detRuns_zeros (d : Det) : detRuns PerTable.zeros.band d = false := by
  cases d <;> rfl

/-- Under the Band Table of a full reset a restart leaves every detector OFF (R55). -/
theorem sameCore_restartDetectors (s : State) : SameCore s (restartDetectors s) :=
  ⟨rfl, rfl, rfl, rfl, rfl, rfl, rfl, fun h =>
    ⟨h.active, h.bank, h.array, h.engine, by simp [h.active, detRuns_zeros], h.pool, h.records⟩⟩

theorem sameCore_bankNotice (k : NoticeKind) (s : State) : SameCore s (bankNotice k s) := by
  unfold bankNotice
  split
  · exact .refl s
  · exact sameCore_of_same

theorem sameCore_arrayNotice (k : NoticeKind) (s : State) : SameCore s (arrayNotice k s) := by
  unfold arrayNotice
  split
  · exact .trans sameCore_of_same (sameCore_restartDetectors _)
  · exact .refl s

/-! ### The conditions kept -/

/-- The heads leave as the triad of an index (R33, R34). -/
def issueTriad (index alignTime : Nat) (h : PerComp Slot) (s : State) : State :=
  { s with
    asm := { s.asm with phase := .aligned (indexAfter index) alignTime, comps := s.asm.comps.map CompState.dropHead }
    bank := { s.bank with inbox := s.bank.inbox ++ [⟨index, alignTime + index * s.period, h.map Slot.toTriad⟩] } }

theorem execTriadIssue_some {s : State} {index alignTime : Nat} {h : PerComp Slot}
    (hn : nextTriad s = some (index, alignTime, h)) : execTriadIssue s = .next (issueTriad index alignTime h s) := by
  simp only [execTriadIssue, hn, issueTriad]

theorem execTriadIssue_none {s : State} (hn : nextTriad s = none) : execTriadIssue s = .next s := by
  simp only [execTriadIssue, hn]

/-- A condition on the alignment buffers, the tables and what is on its way through the picking blocks that every
operation on these keeps. -/
structure CoreKeeps (P : State → Prop) : Prop where
  same : ∀ {s t}, SameCore s t → P s → P t
  reset : ∀ straps pending, P (State.resetWith straps pending)
  takeCopy : ∀ c s, P s → P (takeCopy c s)
  gap : ∀ id s, P s → s.streamOf id ≠ none → P (longGap s)
  issue : ∀ index alignTime h s, P s → nextTriad s = some (index, alignTime, h) → P (issueTriad index alignTime h s)
  restart : ∀ s, P s → s.tables.picker = .running → P (sendNotices .restart (clearAssembler s))
  /-- Results taken by the engine. -/
  results : ∀ {s t : State}, P s → s.engine.inbox ≠ [] → t.asm = s.asm → t.tables = s.tables → P t
  closure : ∀ cause s, P s → P (forcedClosure cause s)
  /-- A pending commit moves on, or none is pending any more; only BOUNDARY comes to BOUNDARY. -/
  commit : ∀ c s, P s → (c ≠ .none → s.tables.commit ≠ .none) →
    (c = .nextBoundary → s.tables.commit = .nextBoundary) → P (s.setCommit c)
  swapPlain : ∀ s, P s → s.tables.commit = .nextBoundary → P (swapPlain s)
  swapWithReset : ∀ s, P s → s.tables.commit ≠ .none → P (swapWithReset s)
  write : ∀ (a : WriteArgs) s, P s → s.tables.commit = .none → a.offset + a.data.length ≤ a.table.size →
    P { s with tables := { s.tables with
      shadow := s.tables.shadow.set a.table (writeAt (s.tables.shadow.get a.table) a.offset a.data)
      written := s.tables.written.set a.table true } }
  execute : ∀ limit s, P s → s.tables.commit = .none → duplicateIds s.tables.shadow.chan = false →
    P (startCommit limit (clampShadow s))

/-- The parameters of TABLE_WRITE name bytes within the table's image (R142). -/
theorem readTableWrite_within {ps : List Byte} {a : WriteArgs} (h : readTableWrite ps = some a) :
    a.offset + a.data.length ≤ a.table.size := by
  unfold readTableWrite at h
  split at h
  · split at h
    · cases h
    · split at h
      · rename_i hwithin
        cases h
        exact hwithin.2.2
      · cases h
  · cases h

namespace CoreKeeps

variable {P : State → Prop} (K : CoreKeeps P)
include K

/-- A row that leaves the buffers, the tables and what is picked alone. -/
theorem ends {s : State} {o : Host.Outcome State Fault Refusal} (ho : EndsIn (SameCore s) o) (h : P s) : EndsIn P o :=
  ho.mono (fun _ k => K.same k h)

theorem forcedSwap {s : State} (h : P s) (hc : s.tables.commit ≠ .none) : P (forcedSwap s) := by
  have same := sameOutsideEngine_forcedClosure s .reconfig
  exact K.same (sameCore_latch _ _) (K.swapWithReset _ (K.closure _ s h) (by rwa [same.tables]))

theorem report (own : Bool) {s : State} (h : P s) : P (report own s) := by
  obtain e | ⟨-, ⟨hc, e⟩ | ⟨_, _, hc, -, e⟩ | ⟨_, hc, -, e⟩⟩ := report_cases own s <;> rw [e]
  · exact h
  · exact K.swapPlain s h hc
  · exact K.swapWithReset s h (by simp [hc])
  · exact K.forcedSwap h (by simp [hc])

theorem sampleCopyTaken {s : State} (h : P s) : EndsIn P (execSampleCopyTaken s) := by
  unfold execSampleCopyTaken
  split
  · exact endsIn_next (K.takeCopy _ _ (K.same sameCore_of_same h))
  · exact endsIn_next h

theorem malformedNoticeTaken {s : State} (h : P s) : EndsIn P (execMalformedNoticeTaken s) := by
  unfold execMalformedNoticeTaken
  split
  · rename_i rest _ _
    have taken : P { s with asm := { s.asm with inbox := rest } } := K.same sameCore_of_same h
    dsimp only
    split
    · exact endsIn_next taken
    · rename_i hstream
      exact endsIn_next (K.gap _ _ taken (Option.ne_none_iff_exists'.mpr ⟨_, hstream⟩))
  · exact endsIn_next h

theorem triadIssue {s : State} (h : P s) : EndsIn P (execTriadIssue s) := by
  match hn : nextTriad s with
  | none => exact execTriadIssue_none hn ▸ endsIn_next h
  | some (index, alignTime, heads) => exact execTriadIssue_some hn ▸ endsIn_next (K.issue _ _ _ _ h hn)

theorem engineTriad {s : State} (h : P s) : EndsIn P (execEngineTriad s) := by
  unfold execEngineTriad
  split
  · rename_i r rest hinbox _
    have same : ∀ u, SameOutsideEngine u (takeTriggers r (takeContexts r u)) := fun u =>
      (sameOutsideEngine_takeContexts r u).trans (sameOutsideEngine_takeTriggers r _)
    exact endsIn_next (K.report _ (K.results h (by simp [hinbox]) (same _).asm (same _).tables))
  · exact endsIn_next h

theorem engineNotice (k : NoticeKind) (cause : Cause) {s : State} (h : P s) : P (engineNotice k cause s) := by
  unfold Machine.engineNotice
  split
  · exact h
  · have moved : P (s.setCommit s.tables.commit.noticeTaken) := by
      refine K.commit _ s h ?_ ?_
      · simp
      · cases s.tables.commit <;> simp [CommitState.noticeTaken]
    exact K.report _ (K.closure _ _ (K.same sameCore_of_same moved))

theorem commitWaitExpiry {s : State} (h : P s) : EndsIn P (execCommitWaitExpiry s) := by
  unfold execCommitWaitExpiry
  split
  · rename_i hc
    split
    · exact endsIn_next h
    · split
      · exact endsIn_next (K.forcedSwap h (by simp [hc]))
      · exact endsIn_next (K.commit _ s h (by simp [hc]) (by simp))
  · exact endsIn_next h
  · exact endsIn_next h
  · exact endsIn_next h

theorem egressFrameSent (straps : BitVec 2) {s : State} (h : P s) : EndsIn P (execEgressFrameSent straps s) := by
  unfold execEgressFrameSent
  split
  · exact endsIn_next h
  · refine endsIn_next ?_
    unfold recordSent
    split
    · exact K.reset _ _
    · split
      · exact K.same sameCore_of_same h
      · exact K.same sameCore_of_same h

/-! ### The command rows -/

theorem runCommand (code tag : Byte) (ps : List Byte) (run : State → Answer) (hrun : ∀ u, P u → P (run u).state)
    {s : State} (h : P s) : EndsIn P (runCommand code tag ps run s) := by
  obtain e | ⟨u, hu, hcases⟩ := runCommand_cases code tag ps run s
  · exact e ▸ endsIn_next h
  · have taken : P u := by
      obtain rfl | rfl := hu
      · exact h
      · exact K.same sameCore_of_same h
    obtain ⟨-, e⟩ | ⟨-, e⟩ | ⟨-, e⟩ := hcases <;> rw [e]
    · exact endsIn_next taken
    · exact endsIn_next (K.same (sameCore_latch u _) taken)
    · exact endsIn_next (K.same sameCore_of_same (hrun u taken))

/-- A command with operands: MALFORMED changes nothing, so its execution is what counts. -/
theorem command {α : Type} (code tag : Byte) (ps : List Byte) (args : Option α) (run : α → State → Answer)
    (hrun : ∀ a, args = some a → ∀ u, P u → P (run a u).state) {s : State} (h : P s) :
    EndsIn P (Machine.runCommand code tag ps (withForm args run) s) := by
  refine K.runCommand _ _ _ _ (fun u hu => ?_) h
  cases args with
  | none => exact hu
  | some a => exact hrun a rfl u hu

/-- A command that leaves the buffers, the tables and what is picked alone. -/
theorem plainCommand {α : Type} (code tag : Byte) (ps : List Byte) (args : Option α) (run : α → State → Answer)
    (hrun : ∀ a u, SameCore u (run a u).state) {s : State} (h : P s) :
    EndsIn P (Machine.runCommand code tag ps (withForm args run) s) :=
  K.command _ _ _ _ _ (fun a _ u hu => K.same (hrun a u) hu) h

theorem commandUndecoded (payload : List Byte) {s : State} (h : P s) : EndsIn P (execCommandUndecoded payload s) := by
  have tagged : ∀ tag code r u, P u → P (judgeTagged tag code (refuse r) u) := by
    intro tag code r u hu
    unfold judgeTagged
    split
    · exact hu
    · split
      · exact K.same (sameCore_latch u _) hu
      · exact K.same sameCore_of_same hu
  have judged : ∀ u, P u → P (judgeUndecoded payload u) := by
    intro u hu
    unfold judgeUndecoded
    split
    · exact hu
    · split
      · exact K.same (sameCore_bump u _ _) hu
      · exact tagged _ _ _ u hu
      · exact tagged _ _ _ u hu
  unfold execCommandUndecoded
  split
  · by_cases hturn : s.cmd.inbox = [] ∨ s.cmd.inbox.head? = some payload
    · rw [takeFrame_ready payload s hturn]
      exact endsIn_next (judged _ (K.same sameCore_of_same h))
    · rw [takeFrame_none payload s hturn]
      exact endsIn_next h
  · exact endsIn_next h

theorem writeTable (a : WriteArgs) (hwithin : a.offset + a.data.length ≤ a.table.size) {s : State} (h : P s) :
    P (writeTable a s).state := by
  unfold Machine.writeTable
  split
  · exact h
  · rename_i hc
    split
    · exact h
    · exact K.write a s h (not_not.mp hc) hwithin

theorem commitTables (limit : Nat) {s : State} (h : P s) : P (commitTables limit s).state := by
  unfold Machine.commitTables
  split
  · exact h
  · rename_i hc
    split
    · exact h
    · split
      · exact h
      · rename_i hdup
        dsimp only [done]
        exact K.execute limit s h (not_not.mp hc) (by simpa using hdup)

theorem cancelCommit {s : State} (h : P s) : P (cancelCommit s).state := by
  unfold Machine.cancelCommit
  split
  · exact h
  · exact K.commit _ s h (by simp) (by simp)

theorem restartPicker {s : State} (h : P s) : P (restartPicker s).state := by
  unfold Machine.restartPicker
  split
  · exact h
  · rename_i hrunning
    exact K.restart s h hrunning

omit K in
theorem sameCore_guardMap (a : GuardArgs) (s : State) : SameCore s (guardMap a s).state := by
  unfold guardMap
  split
  · exact sameCore_of_same
  · exact .refl s
  · split
    · exact sameCore_of_same
    · exact .refl s
  · exact .refl s

omit K in
/-- ARRIVALS_FLUSH leaves no record. -/
theorem sameCore_flushArrivals (s : State) : SameCore s (flushArrivals s).state :=
  ⟨rfl, rfl, rfl, rfl, rfl, rfl, rfl, fun h => ⟨h.active, h.bank, h.array, h.engine, h.dets, h.pool, rfl⟩⟩

/-- Every row keeps the condition. -/
theorem exec (c : Instr) {s : State} (h : P s) : EndsIn P (exec c s) := by
  cases c with
  | fullReset straps => exact endsIn_next (K.reset _ _)
  | rxByte p b stop was => exact K.ends (sameCore_rxByte p b stop was s) h
  | frameReceived p => exact endsIn_next (K.same (sameCore_judgeHeld p s) h)
  | byteTimeout p => exact K.ends (sameCore_byteTimeout p s) h
  | sampleCopyTaken => exact K.sampleCopyTaken h
  | malformedNoticeTaken => exact K.malformedNoticeTaken h
  | stallTimerExpiry stream => exact K.ends (sameCore_stallTimerExpiry stream s) h
  | triadIssue => exact K.triadIssue h
  | filterTriad => exact K.ends (sameCore_filterTriad s) h
  | detectorTriad => exact K.ends (sameCore_detectorTriad s) h
  | engineTriad => exact K.engineTriad h
  | gapNoticeFilter => exact endsIn_next (K.same (sameCore_bankNotice _ s) h)
  | gapNoticeDetector => exact endsIn_next (K.same (sameCore_arrayNotice _ s) h)
  | gapNoticeEngine => exact endsIn_next (K.engineNotice _ _ h)
  | restartFilter => exact endsIn_next (K.same (sameCore_bankNotice _ s) h)
  | restartDetector => exact endsIn_next (K.same (sameCore_arrayNotice _ s) h)
  | restartEngine => exact endsIn_next (K.engineNotice _ _ h)
  | commitWaitExpiry => exact K.commitWaitExpiry h
  | noiseTimerExpiry => exact K.ends (sameCore_noiseTimerExpiry s) h
  | upstreamFrameStart => exact K.ends (sameCore_upstreamFrameStart s) h
  | upstreamFrameSent => exact K.ends (sameCore_upstreamFrameSent s) h
  | egressChoice => exact K.ends (sameCore_egressChoice s) h
  | egressFrameSent straps => exact K.egressFrameSent straps h
  | commandUndecoded payload => exact K.commandUndecoded payload h
  | echo tag ps => exact K.plainCommand _ _ _ _ _ (fun _ u => .refl u) h
  | statusRead tag ps => exact K.plainCommand _ _ _ _ _ (fun _ u => .refl u) h
  | flagsClear tag ps => exact K.plainCommand _ _ _ _ _ (fun _ _ => sameCore_of_same) h
  | attentionMask tag ps => exact K.plainCommand _ _ _ _ _ (fun _ _ => sameCore_of_same) h
  | tableWrite tag ps =>
    exact K.command _ _ _ _ _ (fun a ha u hu => K.writeTable a (readTableWrite_within ha) hu) h
  | tableRead tag ps => exact K.plainCommand _ _ _ _ _ (fun _ u => .refl u) h
  | tablesCommit tag ps => exact K.command _ _ _ _ _ (fun limit _ u hu => K.commitTables limit hu) h
  | commitCancel tag ps => exact K.command _ _ _ _ _ (fun _ _ u hu => K.cancelCommit hu) h
  | mapGuard tag ps => exact K.plainCommand _ _ _ _ _ sameCore_guardMap h
  | egressMode tag ps => exact K.plainCommand _ _ _ _ _ (fun _ _ => sameCore_of_same) h
  | arrivalsFlush tag ps => exact K.plainCommand _ _ _ _ _ (fun _ => sameCore_flushArrivals) h
  | reportInterval tag ps => exact K.plainCommand _ _ _ _ _ (fun _ _ => sameCore_of_same) h
  | pickerRestart tag ps => exact K.command _ _ _ _ _ (fun _ _ u hu => K.restartPicker hu) h
  | partReset tag ps => exact K.plainCommand _ _ _ _ _ (fun _ _ => sameCore_of_same) h

theorem tick {s : State} (h : P s) : P s.tick := by
  have moved : P (s.setCommit s.tables.commit.tick) := by
    refine K.commit _ s h ?_ ?_
    · cases s.tables.commit <;> simp [CommitState.tick]
    · cases s.tables.commit <;> simp [CommitState.tick]
  exact K.same sameCore_of_same moved

/-- Every step keeps the condition. -/
theorem kept : Kept P := by
  intro s t h hstep
  unfold step at hstep
  split at hstep
  · cases hstep
    exact K.tick h
  · rename_i c rest _
    have waiting : P { s with pending := rest } := K.same sameCore_of_same h
    obtain ⟨u, e, hu⟩ := K.exec c waiting
    rw [e] at hstep
    cases hstep
    exact hu

end CoreKeeps

/-! ### A commit executed -/

/-- A commit starts with a swap, with BOUNDARY when neither the Band Table nor the Channel Map is dirty, or while
RUNNING with a wait or a forced swap (R148, R151, R153, R154). -/
theorem startCommit_cases (limit : Nat) (s : State) :
    (needsBandReset s = false ∧
      (startCommit limit s = swapPlain s ∨ startCommit limit s = s.setCommit .nextBoundary)) ∨
    startCommit limit s = swapWithReset s ∨
    (s.tables.picker = .running ∧ (startCommit limit s = forcedSwap s ∨
      ∃ c, c ≠ CommitState.nextBoundary ∧ startCommit limit s = s.setCommit c)) := by
  unfold startCommit commitOutcome
  by_cases hn : needsBandReset s = true
  · by_cases hq : s.tables.picker = .disarmed ∨ s.quietPoint = true
    · exact .inr (.inl (by simp only [hn, hq, if_true]))
    · have hrunning : s.tables.picker = .running := by
        cases hp : s.tables.picker
        · exact absurd (.inl hp) hq
        · rfl
      refine .inr (.inr ⟨hrunning, ?_⟩)
      simp only [hn, hq, if_true, if_false]
      split
      · exact .inr ⟨_, by simp, rfl⟩
      · split
        · exact .inl rfl
        · exact .inr ⟨_, by simp, rfl⟩
  · have hn : needsBandReset s = false := by simpa using hn
    refine .inl ⟨hn, ?_⟩
    simp only [hn, Bool.false_eq_true, if_false]
    split
    · exact .inl rfl
    · exact .inr rfl

/-- A table that is not dirty is valid and its active image is its shadow (R148). -/
theorem tableDirty_eq_false_iff (s : State) (t : Table) :
    tableDirty s t = false ↔ s.tables.valid.get t = true ∧ s.tables.shadow.get t = s.tables.active.get t := by
  simp [tableDirty]

/-- With neither the Band Table nor the Channel Map dirty the Channel Map is valid and stays. -/
theorem chan_of_needsBandReset {s : State} (h : needsBandReset s = false) :
    s.tables.valid.chan = true ∧ s.tables.shadow.chan = s.tables.active.chan := by
  rw [needsBandReset, Bool.or_eq_false_iff] at h
  exact (tableDirty_eq_false_iff s .chan).mp h.2

/-- Clamping changes the shadow images and the flags alone. -/
theorem clampShadow_eq (s : State) : ∃ flags, clampShadow s =
    { s with
      tables := { s.tables with shadow := (clampAll s.tables.shadow).1 }
      status := { s.status with flags := flags } } := by
  rw [clampShadow, latchIf_eq]
  exact ⟨_, rfl⟩

end Sys2Proof.Proofs
end

section
/-! PROOFS. What the Triad Assembler does, outcome by outcome: the judgement of alignment, a usable frame and a copy
(R20 to R33). -/

namespace Sys2Proof.Proofs

open Sys2Proof Sys2Proof.Machine Sys2Proof.Safety

/-! ### Heads -/

theorem heads_eq_some_iff {c : PerComp CompState} {h : PerComp Slot} :
    heads c = some h ↔ ∀ d, ∃ xs, (c.get d).buffer = h.get d :: xs := by
  constructor
  · intro hh d
    unfold heads at hh
    split at hh
    · rename_i hz hn he
      cases hh
      cases d
      · exact ⟨_, hz⟩
      · exact ⟨_, hn⟩
      · exact ⟨_, he⟩
    · cases hh
  · intro hh
    obtain ⟨zs, hz⟩ := hh .z
    obtain ⟨ns, hn⟩ := hh .n
    obtain ⟨es, he⟩ := hh .e
    simp only [PerComp.get] at hz hn he
    simp only [heads, hz, hn, he]

/-- With a buffer empty there are no three heads. -/
theorem heads_of_empty {c : PerComp CompState} (d : Comp) (h : (c.get d).buffer = []) : heads c = none := by
  match hh : heads c with
  | none => rfl
  | some x =>
    obtain ⟨xs, hxs⟩ := heads_eq_some_iff.mp hh d
    rw [h] at hxs
    cases hxs

/-! ### The judgement of alignment (R32, R33) -/

/-- The buffers less the samples earlier than half a period before the latest of the heads. -/
def trimmed (s : State) (h : PerComp Slot) : PerComp CompState :=
  s.asm.comps.map (trimBuffer (s.period / 2) (max3 (headTimes h)))

section
variable {s : State}

theorem judgeAlignment_of_aligned (h : s.asm.phase ≠ .unsynced) : judgeAlignment s = s := by
  unfold judgeAlignment
  split
  · contradiction
  · rfl

theorem judgeAlignment_of_no_heads (h : heads s.asm.comps = none) : judgeAlignment s = s := by
  unfold judgeAlignment
  split
  · rename_i hsome
    rw [h] at hsome
    cases hsome
  · rfl

variable {h : PerComp Slot} (hphase : s.asm.phase = .unsynced) (hheads : heads s.asm.comps = some h)
include hphase hheads

theorem judgeAlignment_of_emptied (hempty : heads (trimmed s h) = none) :
    judgeAlignment s = { s with asm := { s.asm with comps := trimmed s h } } := by
  unfold trimmed at hempty ⊢
  simp only [judgeAlignment, hphase, hheads, hempty]

variable {h' : PerComp Slot} (hheads' : heads (trimmed s h) = some h')
include hheads'

theorem judgeAlignment_of_together (hspread : max3 (headTimes h') - min3 (headTimes h') ≤ s.period / 2) :
    judgeAlignment s =
      { s with asm := { s.asm with comps := trimmed s h, phase := .aligned 0 h'.z.time } } := by
  unfold trimmed at hheads' ⊢
  simp only [judgeAlignment, hphase, hheads, hheads', hspread, if_true]

theorem judgeAlignment_of_apart (hspread : s.period / 2 < max3 (headTimes h') - min3 (headTimes h')) :
    judgeAlignment s = clearAssembler (s.latch .gridMismatch) := by
  unfold trimmed at hheads'
  simp only [judgeAlignment, hphase, hheads, hheads', Nat.not_le.mpr hspread, if_false]
  rfl

end

theorem judgeAlignment_tables (s : State) : (judgeAlignment s).tables = s.tables := by
  obtain ⟨_, _, _, e⟩ := judgeAlignment_touches s
  rw [e]

/-! ### A usable frame (R23, R25 to R30) -/

/-- The state with an overlap flagged and counted, when the frame overlaps (R27). -/
def overlapCounted (comp : Comp) (start : Nat) (s : State) : State :=
  if overlaps s.chanMap start (s.asm.comps.get comp) then (s.bump .overlaps 1).latch .overlap else s

/-- The state with a bridge counted, when the frame comes after a gap (R26). -/
def bridgeCounted (comp : Comp) (start : Nat) (s : State) : State :=
  if followsGap s.chanMap start (s.asm.comps.get comp) then s.bump .bridges 1 else s

/-- The counts of a frame touch neither the assembler nor the tables. -/
theorem overlapCounted_frame (comp : Comp) (start : Nat) (s : State) :
    (overlapCounted comp start s).asm = s.asm ∧ (overlapCounted comp start s).tables = s.tables := by
  unfold overlapCounted
  split <;> exact ⟨rfl, rfl⟩

theorem bridgeCounted_frame (comp : Comp) (start : Nat) (s : State) :
    (bridgeCounted comp start s).asm = s.asm ∧ (bridgeCounted comp start s).tables = s.tables := by
  unfold bridgeCounted
  split <;> exact ⟨rfl, rfl⟩

section
variable {comp : Comp} {start : Nat} {xs : List Sample} {s : State} {c : CompState}

/-- A frame that is placed: its counts, its component's record, and the judgement of alignment. -/
theorem takeUsable_of_append (h : place s.chanMap start xs (s.asm.comps.get comp) = .append c) :
    takeUsable comp start xs s =
      judgeAlignment ((bridgeCounted comp start (overlapCounted comp start s)).setComp comp c) := by
  obtain ⟨hasm, htables⟩ := overlapCounted_frame comp start s
  have hmap : (overlapCounted comp start s).chanMap = s.chanMap := by simp only [State.chanMap, htables]
  simp only [takeUsable, h, bridgeCounted, hasm, hmap]
  rfl

/-- A frame that is wholly unused. -/
theorem takeUsable_of_unused (h : place s.chanMap start xs (s.asm.comps.get comp) = .unused) :
    takeUsable comp start xs s = overlapCounted comp start s := by
  simp only [takeUsable, h]
  rfl

/-- A frame that is a long gap, behind which it anchors its own component. -/
theorem takeUsable_of_longGap (h : place s.chanMap start xs (s.asm.comps.get comp) = .longGap)
    (hanchor : anchorAt s.period start xs .reset = .append c) :
    takeUsable comp start xs s = judgeAlignment ((longGap (overlapCounted comp start s)).setComp comp c) := by
  have hanchor' : anchorAt (periodOf s.chanMap.rate) start xs .reset = .append c := hanchor
  simp only [takeUsable, h, hanchor']
  rfl

/-- A frame that is a long gap and has more samples than a buffer holds. -/
theorem takeUsable_of_oversized (h : place s.chanMap start xs (s.asm.comps.get comp) = .longGap)
    (hanchor : anchorAt s.period start xs .reset = .longGap) :
    takeUsable comp start xs s = longGap (overlapCounted comp start s) := by
  have hanchor' : anchorAt (periodOf s.chanMap.rate) start xs .reset = .longGap := hanchor
  simp only [takeUsable, h, hanchor']
  rfl

end

/-- A frame of an unanchored component is placed or is a long gap. -/
theorem anchorAt_cases (period start : Nat) (xs : List Sample) (c : CompState) :
    (∃ d, anchorAt period start xs c = .append d) ∨ anchorAt period start xs c = .longGap := by
  obtain ⟨-, e⟩ | ⟨-, d, e, -⟩ := appendAt_cases period start [] xs ⟨0, false⟩ c
  · exact .inr e
  · exact .inl ⟨d, e⟩

/-- What a usable frame comes to. -/
theorem takeUsable_cases (comp : Comp) (start : Nat) (xs : List Sample) (s : State) :
    (∃ c, place s.chanMap start xs (s.asm.comps.get comp) = .append c ∧ takeUsable comp start xs s =
      judgeAlignment ((bridgeCounted comp start (overlapCounted comp start s)).setComp comp c)) ∨
    takeUsable comp start xs s = overlapCounted comp start s ∨
    (∃ c, anchorAt s.period start xs .reset = .append c ∧ takeUsable comp start xs s =
      judgeAlignment ((longGap (overlapCounted comp start s)).setComp comp c)) ∨
    takeUsable comp start xs s = longGap (overlapCounted comp start s) := by
  match h : place s.chanMap start xs (s.asm.comps.get comp) with
  | .append c => exact .inl ⟨c, rfl, takeUsable_of_append h⟩
  | .unused => exact .inr (.inl (takeUsable_of_unused h))
  | .longGap =>
    obtain ⟨c, hanchor⟩ | hanchor := anchorAt_cases s.period start xs .reset
    · exact .inr (.inr (.inl ⟨c, hanchor, takeUsable_of_longGap h hanchor⟩))
    · exact .inr (.inr (.inr (takeUsable_of_oversized h hanchor)))

theorem longGap_tables (s : State) : (longGap s).tables = s.tables := rfl

theorem takeUsable_tables (comp : Comp) (start : Nat) (xs : List Sample) (s : State) :
    (takeUsable comp start xs s).tables = s.tables := by
  have counted := (overlapCounted_frame comp start s).2
  obtain ⟨c, -, e⟩ | e | ⟨c, -, e⟩ | e := takeUsable_cases comp start xs s <;> rw [e]
  · rw [judgeAlignment_tables, setComp_tables, (bridgeCounted_frame comp start _).2, counted]
  · exact counted
  · rw [judgeAlignment_tables, setComp_tables, longGap_tables, counted]
  · rw [longGap_tables, counted]

/-! ### A copy (R20, R24, R36) -/

section
variable {c : SampleCopy} {s : State}

theorem takeCopy_unmapped (h : s.streamOf c.channel = none) : takeCopy c s = s := by
  simp only [takeCopy, h]

theorem takeCopy_wrongRate {stream : Comp} (h : s.streamOf c.channel = some stream) (hr : c.rate ≠ s.chanMap.rate) :
    takeCopy c s = longGap (s.latch .rateMismatch) := by
  simp only [takeCopy, h, hr, ne_eq, not_false_eq_true, if_true]

theorem takeCopy_usable {stream : Comp} (h : s.streamOf c.channel = some stream) (hr : c.rate = s.chanMap.rate) :
    takeCopy c s = takeUsable (s.chanMap.component stream) c.start
      (c.samples.map (treat (s.chanMap.streams.get stream))) (restartStall stream s) := by
  simp only [takeCopy, h, hr, ne_eq, not_true_eq_false, if_false]

end

/-- A copy is discarded, is a long gap by its rate, or is a usable frame. -/
theorem takeCopy_cases (c : SampleCopy) (s : State) :
    takeCopy c s = s ∨ takeCopy c s = longGap (s.latch .rateMismatch) ∨
    ∃ stream, takeCopy c s = takeUsable (s.chanMap.component stream) c.start
      (c.samples.map (treat (s.chanMap.streams.get stream))) (restartStall stream s) := by
  match h : s.streamOf c.channel with
  | none => exact .inl (takeCopy_unmapped h)
  | some stream =>
    by_cases hr : c.rate = s.chanMap.rate
    · exact .inr (.inr ⟨stream, takeCopy_usable h hr⟩)
    · exact .inr (.inl (takeCopy_wrongRate h hr))

theorem takeCopy_tables (c : SampleCopy) (s : State) : (takeCopy c s).tables = s.tables := by
  obtain e | e | ⟨stream, e⟩ := takeCopy_cases c s <;> rw [e]
  · rw [longGap_tables, latch_tables]
  · rw [takeUsable_tables, restartStall_tables]

end Sys2Proof.Proofs
end

section
/-! PROOFS. The marks of the Table Bank through swaps and commits, and that nothing is picked while DISARMED (R35, R97,
R149, R157). -/

namespace Sys2Proof.Proofs

open Sys2Proof Sys2Proof.Machine Sys2Proof.Safety

/-! ### The tables after a swap -/

@[simp] theorem swapPlain_tables (s : State) : (swapPlain s).tables = (swapTables s).tables := rfl

@[simp] theorem bandReset_tables (mapChanged : Bool) (s : State) : (bandReset mapChanged s).tables = s.tables := by
  cases mapChanged <;> rfl

@[simp] theorem swapWithReset_tables (s : State) : (swapWithReset s).tables = (swapTables s).tables :=
  bandReset_tables _ _

@[simp] theorem forcedClosure_tables (cause : Cause) (s : State) : (forcedClosure cause s).tables = s.tables :=
  (sameOutsideEngine_forcedClosure s cause).tables

/-- A forced swap makes the same images active as a swap does. -/
@[simp] theorem forcedSwap_tables (s : State) : (forcedSwap s).tables = (swapTables s).tables := by
  rw [forcedSwap, latch_tables, swapWithReset_tables]
  simp only [swapTables, latch_tables, forcedClosure_tables]

/-! ### The marks of the Table Bank -/

/-- The marks depend on the valid marks, the picker state and the commit state alone. -/
theorem bankFits_congr {s t : State} (h : BankFits s) (hvalid : t.tables.valid = s.tables.valid)
    (hpicker : t.tables.picker = s.tables.picker) (hcommit : t.tables.commit = s.tables.commit) : BankFits t := by
  unfold BankFits
  rwa [hvalid, hpicker, hcommit]

/-- A commit state that is pending only while RUNNING. -/
theorem bankFits_setCommit {s : State} (c : CommitState) (h : BankFits s)
    (hc : c ≠ .none → s.tables.picker = .running) : BankFits (s.setCommit c) := by
  obtain ⟨hband, hprof, hrules, hpicker, -⟩ := h
  exact ⟨hband, hprof, hrules, hpicker, hc⟩

/-- After a swap all four marks are set, the picker is RUNNING and no commit is pending (R149, R157). -/
theorem bankFits_of_swapped {s t : State} (e : t.tables = (swapTables s).tables) : BankFits t := by
  simp [BankFits, e]

theorem picker_of_swapped {s t : State} (e : t.tables = (swapTables s).tables) : t.tables.picker = .running := by
  rw [e, swapTables_tables_picker]

theorem bankFits_resetWith (straps : BitVec 2) (pending : List Instr) : BankFits (State.resetWith straps pending) :=
  bankFits_reset

/-- A channel is mapped only while RUNNING (R19, R157). -/
theorem picker_of_streamOf {s : State} {id : Byte} (hbank : BankFits s) (h : s.streamOf id ≠ none) :
    s.tables.picker = .running := by
  obtain ⟨-, -, -, hpicker, -⟩ := hbank
  exact hpicker.mpr ((streamOf_ne_none_iff s id).mp h).1

/-- A commit with neither the Band Table nor the Channel Map dirty comes only while RUNNING. -/
theorem picker_of_needsBandReset {s : State} (hbank : BankFits s) (h : needsBandReset s = false) :
    s.tables.picker = .running := by
  obtain ⟨-, -, -, hpicker, -⟩ := hbank
  exact hpicker.mpr (chan_of_needsBandReset h).1

/-! ### Nothing is picked while DISARMED -/

theorem disarmedIsIdle_iff (s : State) : DisarmedIsIdle s ↔ BankFits s ∧ (s.tables.picker = .disarmed →
    NothingPicked s ∧ s.asm.phase = .unsynced ∧ s.asm.comps = .all .reset) := by
  refine and_congr_right fun _ => imp_congr_right fun _ => ?_
  constructor
  · rintro ⟨active, phase, comps, bank, array, engine, dets, pool, records⟩
    exact ⟨⟨active, bank, array, engine, dets, pool, records⟩, phase, comps⟩
  · rintro ⟨⟨active, bank, array, engine, dets, pool, records⟩, phase, comps⟩
    exact ⟨active, phase, comps, bank, array, engine, dets, pool, records⟩

/-- While RUNNING the marks are all that is asked. -/
theorem disarmedIsIdle_of_running {s : State} (hbank : BankFits s) (h : s.tables.picker = .running) :
    DisarmedIsIdle s :=
  ⟨hbank, fun hdisarmed => by rw [h] at hdisarmed; cases hdisarmed⟩

/-- While RUNNING whatever leaves the tables as they are. -/
theorem disarmedIsIdle_of_tables {s t : State} (h : DisarmedIsIdle s) (hrunning : s.tables.picker = .running)
    (e : t.tables = s.tables) : DisarmedIsIdle t :=
  disarmedIsIdle_of_running (bankFits_congr h.1 (by rw [e]) (by rw [e]) (by rw [e])) (by rw [e, hrunning])

theorem disarmedIsIdle_of_swapped {s t : State} (e : t.tables = (swapTables s).tables) : DisarmedIsIdle t :=
  disarmedIsIdle_of_running (bankFits_of_swapped e) (picker_of_swapped e)

theorem picker_eq_running_or_disarmed (s : State) :
    s.tables.picker = .running ∨ s.tables.picker = .disarmed := by
  cases s.tables.picker
  · exact .inr rfl
  · exact .inl rfl

/-- With every context FREE a forced closure has nothing to close. -/
theorem forcedClosure_of_empty (cause : Cause) (s : State) (h : ∀ i, s.ctx i = none) : forcedClosure cause s = s := by
  refine foldl_keeps (P := fun u => u = s) (fun u i hu => ?_) _ rfl
  rw [hu, forceContext, h i]

/-- A commit executed swaps, or waits while RUNNING. -/
theorem disarmedIsIdle_startCommit (limit : Nat) (s : State) (hbank : BankFits s) :
    DisarmedIsIdle (startCommit limit s) := by
  have waits : ∀ c, s.tables.picker = .running → DisarmedIsIdle (s.setCommit c) := fun c hrunning =>
    disarmedIsIdle_of_running (bankFits_setCommit c hbank (fun _ => hrunning)) hrunning
  obtain ⟨hn, e | e⟩ | e | ⟨hrunning, e | ⟨c, -, e⟩⟩ := startCommit_cases limit s <;> rw [e]
  · exact disarmedIsIdle_of_swapped (swapPlain_tables s)
  · exact waits _ (picker_of_needsBandReset hbank hn)
  · exact disarmedIsIdle_of_swapped (swapWithReset_tables s)
  · exact disarmedIsIdle_of_swapped (forcedSwap_tables s)
  · exact waits c hrunning

/-- While DISARMED no channel is mapped, no commit is pending, and nothing waits before a picking block. -/
theorem coreKeeps_disarmedIsIdle : CoreKeeps DisarmedIsIdle where
  same k h := by
    rw [disarmedIsIdle_iff] at h ⊢
    obtain ⟨hbank, hidle⟩ := h
    refine ⟨bankFits_congr hbank k.valid k.picker k.commit, fun hdisarmed => ?_⟩
    obtain ⟨picked, phase, comps⟩ := hidle (k.picker ▸ hdisarmed)
    exact ⟨k.picked picked, k.phase.trans phase, k.comps.trans comps⟩
  reset straps pending :=
    ⟨bankFits_resetWith straps pending, fun _ => ⟨rfl, rfl, rfl, rfl, rfl, rfl, rfl, ctx_reset, rfl⟩⟩
  takeCopy c s h := by
    by_cases hstream : s.streamOf c.channel = none
    · rwa [takeCopy_unmapped hstream]
    · exact disarmedIsIdle_of_tables h (picker_of_streamOf h.1 hstream) (takeCopy_tables c s)
  gap id s h hstream := disarmedIsIdle_of_tables h (picker_of_streamOf h.1 hstream) (longGap_tables s)
  issue index alignTime heads s h hn := by
    have aligned : s.asm.phase ≠ .unsynced := by
      intro hphase
      simp only [nextTriad, hphase] at hn
      cases hn
    obtain hrunning | hdisarmed := picker_eq_running_or_disarmed s
    · exact disarmedIsIdle_of_tables h hrunning rfl
    · obtain ⟨-, hphase, -⟩ := ((disarmedIsIdle_iff s).mp h).2 hdisarmed
      exact absurd hphase aligned
  restart s h hrunning := disarmedIsIdle_of_tables h hrunning rfl
  results {s t} h hinbox _ htables := by
    obtain hrunning | hdisarmed := picker_eq_running_or_disarmed s
    · exact disarmedIsIdle_of_tables h hrunning htables
    · obtain ⟨picked, -, -⟩ := ((disarmedIsIdle_iff s).mp h).2 hdisarmed
      exact absurd picked.engine hinbox
  closure cause s h := by
    obtain hrunning | hdisarmed := picker_eq_running_or_disarmed s
    · exact disarmedIsIdle_of_tables h hrunning (forcedClosure_tables cause s)
    · obtain ⟨picked, -, -⟩ := ((disarmedIsIdle_iff s).mp h).2 hdisarmed
      rwa [forcedClosure_of_empty cause s picked.pool]
  commit c s h hc _ := by
    obtain ⟨hbank, hidle⟩ := h
    have pending : s.tables.commit ≠ .none → s.tables.picker = .running := by
      obtain ⟨-, -, -, -, hcommit⟩ := hbank
      exact hcommit
    exact ⟨bankFits_setCommit c hbank (fun hne => pending (hc hne)), hidle⟩
  swapPlain s _ _ := disarmedIsIdle_of_swapped (swapPlain_tables s)
  swapWithReset s _ _ := disarmedIsIdle_of_swapped (swapWithReset_tables s)
  write a s h _ _ := h
  execute limit s h _ _ := by
    obtain ⟨flags, e⟩ := clampShadow_eq s
    exact disarmedIsIdle_startCommit limit _ (bankFits_congr h.1 (by rw [e]) (by rw [e]) (by rw [e]))

/-- Settles O60: while DISARMED no channel is mapped, so no sample is taken, and no commit is pending. -/
theorem nothingIsPickedWhileDisarmed : Obligations.NothingIsPickedWhileDisarmed := coreKeeps_disarmedIsIdle.kept

end Sys2Proof.Proofs
end

section
/-! PROOFS. The alignment buffers on their grids: what an appended frame, a trim and an issued triad leave of a grid,
and that the next heads stay together while ALIGNED (R22, R25 to R28, R32 to R34). -/

namespace Sys2Proof.Proofs

open Sys2Proof Sys2Proof.Machine Sys2Proof.Safety

/-! ### Buffers (R22) -/

theorem onGrid_cons_iff {p e : Nat} {x : Slot} {xs : List Slot} :
    onGrid p e (x :: xs) = true ↔ x.time + p * (xs.length + 1) = e ∧ onGrid p e xs = true := by
  simp [onGrid]

/-- Slots that go on a grid where it ends. -/
theorem onGrid_append {p e : Nat} {xs ys : List Slot} (hx : onGrid p e xs = true)
    (hy : onGrid p (e + ys.length * p) ys = true) : onGrid p (e + ys.length * p) (xs ++ ys) = true := by
  induction xs with
  | nil => exact hy
  | cons x xs ih =>
    obtain ⟨htime, hrest⟩ := onGrid_cons_iff.mp hx
    refine onGrid_cons_iff.mpr ⟨?_, ih hrest⟩
    rw [← htime, List.append_eq, List.length_append]
    ring

theorem onGrid_gridSlots (p : Nat) (bridged : Bool) (t : Nat) (xs : List Sample) :
    onGrid p (t + xs.length * p) (gridSlots p bridged t xs) = true := by
  induction xs generalizing t with
  | nil => rfl
  | cons x xs ih =>
    have hend : t + (x :: xs).length * p = t + p + xs.length * p := by
      rw [List.length_cons]
      ring
    refine onGrid_cons_iff.mpr ⟨?_, hend ▸ ih (t + p)⟩
    rw [gridSlots_length, List.length_cons]
    ring

/-- The slots that a trim leaves lie on the same grid. -/
theorem onGrid_dropWhile {p e : Nat} {xs : List Slot} (q : Slot → Bool) (h : onGrid p e xs = true) :
    onGrid p e (xs.dropWhile q) = true := by
  induction xs with
  | nil => exact h
  | cons x xs ih =>
    rw [List.dropWhile_cons]
    split
    · exact ih (onGrid_cons_iff.mp h).2
    · exact h

/-! ### Components (R22, R23) -/

section
variable {p : Nat} {c d : CompState} {a : Anchor}

theorem componentOnGrid_anchored (ha : c.anchor = some a) :
    componentOnGrid p c = onGrid p a.expected c.buffer := by
  simp only [componentOnGrid, ha]

theorem componentOnGrid_unanchored_iff (ha : c.anchor = none) : componentOnGrid p c = true ↔ c.buffer = [] := by
  simp only [componentOnGrid, ha, List.isEmpty_iff]

/-- A component that holds a sample is anchored. -/
theorem anchor_isSome_of_buffer (h : componentOnGrid p c = true) (hne : c.buffer ≠ []) : c.anchor.isSome = true := by
  cases ha : c.anchor with
  | none => exact absurd ((componentOnGrid_unanchored_iff ha).mp h) hne
  | some a => rfl

/-- The next head stands as many periods before the expected time as the buffer holds samples. -/
theorem nextTime_add (h : componentOnGrid p c = true) (ha : c.anchor = some a) :
    nextTime c + c.buffer.length * p = a.expected := by
  rw [componentOnGrid_anchored ha] at h
  cases hb : c.buffer with
  | nil => simp [nextTime, hb, ha]
  | cons x xs =>
    rw [hb] at h
    rw [← (onGrid_cons_iff.mp h).1, List.length_cons, Nat.mul_comm]
    simp only [nextTime, hb]

/-- The component's next head behind one that has left (R34). -/
theorem nextTime_dropHead (h : componentOnGrid p c = true) (hne : c.buffer ≠ []) :
    componentOnGrid p c.dropHead = true ∧ nextTime c.dropHead = nextTime c + p := by
  obtain ⟨a, ha⟩ := Option.isSome_iff_exists.mp (anchor_isSome_of_buffer h hne)
  obtain ⟨x, xs, hb⟩ := List.exists_cons_of_ne_nil hne
  have hdrop : c.dropHead = ⟨some a, xs⟩ := by simp only [CompState.dropHead, hb, ha, List.tail_cons]
  have hgrid : componentOnGrid p c.dropHead = true := by
    rw [componentOnGrid_anchored ha, hb] at h
    rw [hdrop]
    exact (onGrid_cons_iff.mp h).2
  refine ⟨hgrid, ?_⟩
  have before := nextTime_add h ha
  have after := nextTime_add hgrid (by rw [hdrop])
  rw [hb, List.length_cons, Nat.add_mul, Nat.one_mul] at before
  simp only [hdrop] at after ⊢
  omega

theorem componentOnGrid_trimBuffer (half latest : Nat) (h : componentOnGrid p c = true) :
    componentOnGrid p (trimBuffer half latest c) = true := by
  cases ha : c.anchor with
  | none =>
    rw [componentOnGrid_unanchored_iff ha] at h
    rw [componentOnGrid_unanchored_iff (c := trimBuffer half latest c) ha, trimBuffer, h, List.dropWhile_nil]
  | some a =>
    rw [componentOnGrid_anchored ha] at h
    rw [componentOnGrid_anchored (c := trimBuffer half latest c) ha]
    exact onGrid_dropWhile _ h

/-- What an appended frame leaves: the bridge and the samples behind the buffer, a period apart. -/
theorem eq_of_appendAt {t : Nat} {bridge xs : List Sample} {last : Sample}
    (h : appendAt p t bridge xs last c = .append d) : d =
      ⟨some ⟨t + bridge.length * p + xs.length * p, xs.getLastD last⟩,
        c.buffer ++ gridSlots p true t bridge ++ gridSlots p false (t + bridge.length * p) xs⟩ := by
  unfold appendAt at h
  split at h
  · cases h
  · cases h
    rfl

/-- Samples appended where the buffer's grid ends lie on that grid, and the buffer's next head stays. -/
theorem appendAt_onGrid {t : Nat} {bridge xs : List Sample} {last : Sample}
    (h : appendAt p t bridge xs last c = .append d) (hc : onGrid p t c.buffer = true) :
    componentOnGrid p d = true ∧ d.anchor.isSome = true ∧ nextTime d + c.buffer.length * p = t := by
  have hd := eq_of_appendAt h
  have bridged := onGrid_append (ys := gridSlots p true t bridge) hc (by simpa using onGrid_gridSlots p true t bridge)
  have placed := onGrid_append (ys := gridSlots p false (t + bridge.length * p) xs) bridged
    (by simpa using onGrid_gridSlots p false (t + bridge.length * p) xs)
  have hgrid : componentOnGrid p d = true := by simpa [hd, componentOnGrid] using placed
  refine ⟨hgrid, by rw [hd]; rfl, ?_⟩
  have hnext := nextTime_add hgrid (by rw [hd])
  have hlen : d.buffer.length = c.buffer.length + bridge.length + xs.length := by simp [hd, Nat.add_assoc]
  simp only [hlen, Nat.add_mul] at hnext
  omega

/-- A frame of an anchored component goes on its grid, whatever its offset (R25 to R28). -/
theorem place_anchored_onGrid {m : ChannelMap} {start : Nat} {xs : List Sample} (ha : c.anchor = some a)
    (hc : onGrid (periodOf m.rate) a.expected c.buffer = true) (h : place m start xs c = .append d) :
    componentOnGrid (periodOf m.rate) d = true ∧ d.anchor.isSome = true ∧
      nextTime d + c.buffer.length * periodOf m.rate = a.expected := by
  simp only [place, ha] at h
  split at h
  · exact appendAt_onGrid h hc
  · split at h
    · exact appendAt_onGrid h hc
    · cases h
  · split at h
    · cases h
    · exact appendAt_onGrid h hc

/-- A placed frame leaves its component anchored and on its grid, and the next head of an anchored one stays. -/
theorem place_onGrid {m : ChannelMap} {start : Nat} {xs : List Sample}
    (hc : componentOnGrid (periodOf m.rate) c = true) (h : place m start xs c = .append d) :
    componentOnGrid (periodOf m.rate) d = true ∧ d.anchor.isSome = true ∧
      (c.anchor.isSome = true → nextTime d = nextTime c) := by
  cases ha : c.anchor with
  | none =>
    simp only [place, ha] at h
    rw [componentOnGrid_unanchored_iff ha] at hc
    obtain ⟨hgrid, hanchor, -⟩ := appendAt_onGrid h (by rw [hc]; rfl)
    exact ⟨hgrid, hanchor, nofun⟩
  | some a =>
    have before := nextTime_add hc ha
    rw [componentOnGrid_anchored ha] at hc
    obtain ⟨hgrid, hanchor, after⟩ := place_anchored_onGrid ha hc h
    exact ⟨hgrid, hanchor, fun _ => by omega⟩

end

/-! ### Heads (R32, R34) -/

theorem get_le_max3 (p : PerComp Nat) (c : Comp) : p.get c ≤ max3 p := by
  unfold max3
  cases c <;> simp only [PerComp.get] <;> omega

theorem min3_le_get (p : PerComp Nat) (c : Comp) : min3 p ≤ p.get c := by
  unfold min3
  cases c <;> simp only [PerComp.get] <;> omega

@[simp] theorem headTimes_get (h : PerComp Slot) (c : Comp) : (headTimes h).get c = (h.get c).time :=
  PerComp.get_map _ h c

/-! ### The condition kept -/

/-- The three components on their grids; while ALIGNED each is anchored and the next heads lie within half a period of
one another (R22, R23, R34). -/
structure GridsTogether (s : State) : Prop where
  onGrid : ∀ c, componentOnGrid s.period (s.asm.comps.get c) = true
  anchored : s.asm.phase ≠ .unsynced → ∀ c, (s.asm.comps.get c).anchor.isSome = true
  together : HeadsTogether s

/-- The condition apart from the assembler: BOUNDARY is pending only while the Channel Map stays (R148). -/
def BoundaryKeepsMap (s : State) : Prop :=
  s.tables.commit = .nextBoundary → s.tables.shadow.chan = s.tables.active.chan

theorem gridsKept_and_headsTogether_iff (s : State) :
    GridsKept s ∧ HeadsTogether s ↔ GridsTogether s ∧ BoundaryKeepsMap s := by
  constructor
  · rintro ⟨⟨hz, hn, he, hanchored, hmap⟩, htogether⟩
    refine ⟨⟨fun c => by cases c <;> assumption, fun haligned c => ?_, htogether⟩, hmap⟩
    obtain ⟨az, an, ae⟩ := hanchored haligned
    cases c <;> assumption
  · rintro ⟨⟨hgrid, hanchored, htogether⟩, hmap⟩
    exact ⟨⟨hgrid .z, hgrid .n, hgrid .e, fun h => ⟨hanchored h .z, hanchored h .n, hanchored h .e⟩, hmap⟩, htogether⟩

theorem period_congr {s t : State} (h : t.tables.active.chan = s.tables.active.chan) : t.period = s.period := by
  simp only [State.period, State.chanMap, h]

theorem GridsTogether.congr {s t : State} (h : GridsTogether s) (hphase : t.asm.phase = s.asm.phase)
    (hcomps : t.asm.comps = s.asm.comps) (hmap : t.tables.active.chan = s.tables.active.chan) : GridsTogether t := by
  obtain ⟨hgrid, hanchored, htogether⟩ := h
  have hperiod := period_congr hmap
  refine ⟨by rwa [hperiod, hcomps], by rwa [hphase, hcomps], ?_⟩
  unfold HeadsTogether
  rwa [hperiod, hphase, hcomps]

/-- An assembler whose buffers lie on their grids in UNSYNCED. -/
theorem gridsTogether_of_unsynced {s : State} (hphase : s.asm.phase = .unsynced)
    (h : ∀ c, componentOnGrid s.period (s.asm.comps.get c) = true) : GridsTogether s :=
  ⟨h, fun haligned => absurd hphase haligned, fun haligned => absurd hphase haligned⟩

theorem gridsTogether_of_cleared {s : State} (hphase : s.asm.phase = .unsynced)
    (hcomps : s.asm.comps = .all .reset) : GridsTogether s :=
  gridsTogether_of_unsynced hphase (fun c => by rw [hcomps, PerComp.get_all]; rfl)

/-- A component replaced by one on the grid, with the next head of an aligned one where it was. -/
theorem gridsTogether_setComp {s : State} {c : Comp} {x : CompState} (h : GridsTogether s)
    (hx : componentOnGrid s.period x = true) (hanchor : x.anchor.isSome = true)
    (hnext : s.asm.phase ≠ .unsynced → nextTime x = nextTime (s.asm.comps.get c)) : GridsTogether (s.setComp c x) := by
  obtain ⟨hgrid, hanchored, htogether⟩ := h
  refine ⟨fun d => ?_, fun haligned d => ?_, fun haligned d d' => ?_⟩
  · rw [setComp_asm_comps, PerComp.get_set]
    split
    · exact hx
    · exact hgrid d
  · rw [setComp_asm_comps, PerComp.get_set]
    split
    · exact hanchor
    · exact hanchored haligned d
  · have same : ∀ d, nextTime ((s.setComp c x).asm.comps.get d) = nextTime (s.asm.comps.get d) := by
      intro d
      rw [setComp_asm_comps, PerComp.get_set]
      split
      · rename_i hd
        rw [hd, hnext haligned]
      · rfl
    rw [same, same]
    exact htogether haligned d d'

/-! ### Alignment -/

theorem trimmed_onGrid {s : State} (hgrid : ∀ c, componentOnGrid s.period (s.asm.comps.get c) = true)
    (h : PerComp Slot) (c : Comp) : componentOnGrid s.period ((trimmed s h).get c) = true := by
  rw [trimmed, PerComp.get_map]
  exact componentOnGrid_trimBuffer _ _ (hgrid c)

theorem gridsTogether_judgeAlignment {s : State} (hs : GridsTogether s) : GridsTogether (judgeAlignment s) := by
  by_cases hphase : s.asm.phase = .unsynced
  · match hheads : heads s.asm.comps with
    | none => rwa [judgeAlignment_of_no_heads hheads]
    | some h =>
      have hgrid := trimmed_onGrid hs.onGrid h
      match hheads' : heads (trimmed s h) with
      | none =>
        rw [judgeAlignment_of_emptied hphase hheads hheads']
        exact gridsTogether_of_unsynced hphase hgrid
      | some h' =>
        have heads' := heads_eq_some_iff.mp hheads'
        by_cases hspread : max3 (headTimes h') - min3 (headTimes h') ≤ s.period / 2
        · rw [judgeAlignment_of_together hphase hheads hheads' hspread]
          refine ⟨hgrid, fun _ c => ?_, fun _ c d => ?_⟩
          · obtain ⟨xs, hb⟩ := heads' c
            exact anchor_isSome_of_buffer (hgrid c) (by simp [hb])
          · have next : ∀ c, nextTime ((trimmed s h).get c) = (headTimes h').get c := by
              intro c
              obtain ⟨xs, hb⟩ := heads' c
              simp only [nextTime, hb, headTimes_get]
            have hmax := get_le_max3 (headTimes h') c
            have hmin := min3_le_get (headTimes h') d
            show nextTime ((trimmed s h).get c) ≤ nextTime ((trimmed s h).get d) + s.period / 2
            rw [next, next]
            omega
        · rw [judgeAlignment_of_apart hphase hheads hheads' (Nat.lt_of_not_le hspread)]
          exact gridsTogether_of_cleared rfl rfl
  · rwa [judgeAlignment_of_aligned hphase]

/-! ### Frames taken (R23, R25 to R30) -/

theorem gridsTogether_longGap (s : State) : GridsTogether (longGap s) := gridsTogether_of_cleared rfl rfl

theorem gridsTogether_takeUsable (comp : Comp) (start : Nat) (xs : List Sample) {s : State} (h : GridsTogether s) :
    GridsTogether (takeUsable comp start xs s) := by
  obtain ⟨hasm, htables⟩ := overlapCounted_frame comp start s
  obtain ⟨hasm', htables'⟩ := bridgeCounted_frame comp start (overlapCounted comp start s)
  obtain ⟨c, hp, e⟩ | e | ⟨c, hp, e⟩ | e := takeUsable_cases comp start xs s <;> rw [e]
  · obtain ⟨hgrid, hanchor, hnext⟩ := place_onGrid (h.onGrid comp) hp
    have placed := gridsTogether_setComp h hgrid hanchor (fun haligned => hnext (h.anchored haligned comp))
    refine gridsTogether_judgeAlignment (placed.congr ?_ ?_ ?_)
    · rw [setComp_asm_phase, setComp_asm_phase, hasm', hasm]
    · rw [setComp_asm_comps, setComp_asm_comps, hasm', hasm]
    · rw [setComp_tables, setComp_tables, htables', htables]
  · exact h.congr (by rw [hasm]) (by rw [hasm]) (by rw [htables])
  · have hperiod : (longGap (overlapCounted comp start s)).period = s.period :=
      period_congr (by rw [longGap_tables, htables])
    obtain ⟨hgrid, hanchor, -⟩ := appendAt_onGrid hp rfl
    exact gridsTogether_judgeAlignment (gridsTogether_setComp (gridsTogether_longGap _) (hperiod ▸ hgrid) hanchor
      (fun haligned => absurd rfl haligned))
  · exact gridsTogether_longGap _

theorem gridsTogether_takeCopy (c : SampleCopy) {s : State} (h : GridsTogether s) : GridsTogether (takeCopy c s) := by
  obtain e | e | ⟨stream, e⟩ := takeCopy_cases c s <;> rw [e]
  · exact h
  · exact gridsTogether_longGap _
  · exact gridsTogether_takeUsable _ _ _ (h.congr rfl rfl rfl)

/-! ### Triads issued (R33, R34) -/

/-- A triad issued takes the heads of an aligned assembler. -/
theorem nextTriad_eq_some {s : State} {index alignTime : Nat} {h : PerComp Slot}
    (hn : nextTriad s = some (index, alignTime, h)) :
    s.asm.phase = .aligned index alignTime ∧ heads s.asm.comps = some h := by
  unfold nextTriad at hn
  split at hn
  · rename_i hphase hheads
    split at hn
    · cases hn
      exact ⟨hphase, hheads⟩
    · cases hn
  · cases hn

theorem gridsTogether_issueTriad {s : State} {index alignTime : Nat} {heads : PerComp Slot} (h : GridsTogether s)
    (hn : nextTriad s = some (index, alignTime, heads)) : GridsTogether (issueTriad index alignTime heads s) := by
  obtain ⟨hphase, hheads⟩ := nextTriad_eq_some hn
  have haligned : s.asm.phase ≠ .unsynced := by simp [hphase]
  have comps : ∀ c, (issueTriad index alignTime heads s).asm.comps.get c = (s.asm.comps.get c).dropHead :=
    fun c => PerComp.get_map _ _ c
  have dropped : ∀ c, componentOnGrid s.period (s.asm.comps.get c).dropHead = true ∧
      nextTime (s.asm.comps.get c).dropHead = nextTime (s.asm.comps.get c) + s.period := by
    intro c
    obtain ⟨xs, hb⟩ := heads_eq_some_iff.mp hheads c
    exact nextTime_dropHead (h.onGrid c) (by simp [hb])
  refine ⟨fun c => ?_, fun _ c => ?_, fun _ c d => ?_⟩
  · rw [comps]
    exact (dropped c).1
  · rw [comps]
    exact h.anchored haligned c
  · have hcd := h.together haligned c d
    rw [comps, comps, (dropped c).2, (dropped d).2]
    show _ ≤ _ + s.period / 2
    omega

/-! ### Swaps (R148, R151, R152) -/

/-- A swap that leaves the Channel Map as it is. -/
theorem gridsTogether_swapPlain {s : State} (h : GridsTogether s) (hmap : s.tables.shadow.chan = s.tables.active.chan) :
    GridsTogether (swapPlain s) :=
  h.congr rfl rfl hmap

/-- A swap with band reset clears the assembler or leaves the Channel Map as it is. -/
theorem gridsTogether_swapWithReset {s : State} (h : GridsTogether s) : GridsTogether (swapWithReset s) := by
  unfold swapWithReset
  match hd : tableDirty s .chan with
  | true => exact gridsTogether_of_cleared rfl rfl
  | false => exact h.congr rfl rfl ((tableDirty_eq_false_iff s .chan).mp hd).2

theorem gridsTogether_forcedSwap {s : State} (h : GridsTogether s) : GridsTogether (forcedSwap s) := by
  have same := sameOutsideEngine_forcedClosure s .reconfig
  have closed : GridsTogether (forcedClosure .reconfig s) :=
    h.congr (by rw [same.asm]) (by rw [same.asm]) (by rw [same.tables])
  exact (gridsTogether_swapWithReset closed).congr rfl rfl rfl

/-! ### Every step -/

theorem boundaryKeepsMap_of_tables {s t : State} (h : BoundaryKeepsMap s) (e : t.tables = s.tables) :
    BoundaryKeepsMap t := by
  unfold BoundaryKeepsMap
  rwa [e]

/-- With no commit pending nothing is asked. -/
theorem boundaryKeepsMap_of_commit {s : State} (h : s.tables.commit ≠ .nextBoundary) : BoundaryKeepsMap s :=
  fun hc => absurd hc h

theorem boundaryKeepsMap_of_swapped {s t : State} (e : t.tables = (swapTables s).tables) : BoundaryKeepsMap t :=
  boundaryKeepsMap_of_commit (by rw [e]; simp)

/-- A commit executed leaves the buffers, or swaps; it waits as BOUNDARY only when the Channel Map stays. -/
theorem gridsTogether_startCommit (limit : Nat) {s : State} (h : GridsTogether s) :
    GridsTogether (startCommit limit s) ∧ BoundaryKeepsMap (startCommit limit s) := by
  obtain ⟨hn, e | e⟩ | e | ⟨-, e | ⟨c, hc, e⟩⟩ := startCommit_cases limit s <;> rw [e]
  · exact ⟨gridsTogether_swapPlain h (chan_of_needsBandReset hn).2, boundaryKeepsMap_of_swapped (swapPlain_tables s)⟩
  · exact ⟨h.congr rfl rfl rfl, fun _ => (chan_of_needsBandReset hn).2⟩
  · exact ⟨gridsTogether_swapWithReset h, boundaryKeepsMap_of_swapped (swapWithReset_tables s)⟩
  · exact ⟨gridsTogether_forcedSwap h, boundaryKeepsMap_of_swapped (forcedSwap_tables s)⟩
  · exact ⟨h.congr rfl rfl rfl, boundaryKeepsMap_of_commit hc⟩

theorem coreKeeps_gridsTogether : CoreKeeps (fun s => GridsTogether s ∧ BoundaryKeepsMap s) where
  same k h := by
    obtain ⟨hgrids, hmap⟩ := h
    refine ⟨hgrids.congr k.phase k.comps (by rw [k.active]), ?_⟩
    unfold BoundaryKeepsMap
    rwa [k.commit, k.shadow, k.active]
  reset straps pending := ⟨gridsTogether_of_cleared rfl rfl, fun _ => rfl⟩
  takeCopy c s h := ⟨gridsTogether_takeCopy c h.1, boundaryKeepsMap_of_tables h.2 (takeCopy_tables c s)⟩
  gap id s h _ := ⟨gridsTogether_longGap s, boundaryKeepsMap_of_tables h.2 (longGap_tables s)⟩
  issue index alignTime heads s h hn := ⟨gridsTogether_issueTriad h.1 hn, h.2⟩
  restart s h _ := ⟨gridsTogether_of_cleared rfl rfl, h.2⟩
  results h _ hasm htables :=
    ⟨h.1.congr (by rw [hasm]) (by rw [hasm]) (by rw [htables]), boundaryKeepsMap_of_tables h.2 htables⟩
  closure cause s h := by
    have same := sameOutsideEngine_forcedClosure s cause
    exact ⟨h.1.congr (by rw [same.asm]) (by rw [same.asm]) (by rw [same.tables]),
      boundaryKeepsMap_of_tables h.2 same.tables⟩
  commit c s h _ hboundary := ⟨h.1.congr rfl rfl rfl, fun hc => h.2 (hboundary hc)⟩
  swapPlain s h hc := ⟨gridsTogether_swapPlain h.1 (h.2 hc), boundaryKeepsMap_of_swapped (swapPlain_tables s)⟩
  swapWithReset s h _ := ⟨gridsTogether_swapWithReset h.1, boundaryKeepsMap_of_swapped (swapWithReset_tables s)⟩
  write a s h hc _ := ⟨h.1.congr rfl rfl rfl, boundaryKeepsMap_of_commit (by simp [hc])⟩
  execute limit s h _ _ := by
    obtain ⟨flags, e⟩ := clampShadow_eq s
    exact gridsTogether_startCommit limit (h.1.congr (by rw [e]) (by rw [e]) (by rw [e]))

/-- Settles O57: frames, trims and triads keep the grids, alignment brings the heads together, and a swap that changes
the Channel Map clears the assembler. -/
theorem alignedHeadsStayWithinHalfAPeriod : Obligations.AlignedHeadsStayWithinHalfAPeriod := by
  intro s t h hstep
  rw [gridsKept_and_headsTogether_iff] at h ⊢
  exact coreKeeps_gridsTogether.kept s t h hstep

end Sys2Proof.Proofs
end

section
/-! PROOFS. Clamping brings every field of the four images into its range and leaves the sizes and the channel ids as
they are (R144 to R147). -/

namespace Sys2Proof.Proofs

open Sys2Proof Sys2Proof.Machine Sys2Proof.Safety

/-! ### One field clamped (R145) -/

/-- `b` has the size of the image `a` and its bytes but for the `len` at `off`. -/
structure SameOutsideField (off len : Nat) (a b : List Byte) : Prop where
  length : b.length = a.length
  getD : ∀ i, i < off ∨ off + len ≤ i → b.getD i 0 = a.getD i 0

/-- `b` is an image of `size` bytes with those of `a` but for the `len` at `off`, and there a field from `lo`
to `hi`. -/
structure FieldClamped (size off len lo hi : Nat) (a b : List Byte) : Prop extends SameOutsideField off len a b where
  size : b.length = size
  lower : lo ≤ fieldAt b off len
  upper : fieldAt b off len ≤ hi

namespace SameOutsideField

variable {off len : Nat} {a b c : List Byte}

theorem fieldAt (h : SameOutsideField off len a b) (o n : Nat) (hd : o + n ≤ off ∨ off + len ≤ o) :
    fieldAt b o n = fieldAt a o n :=
  fieldAt_congr b a o n h.length (fun i _ _ => h.getD i (by omega))

theorem trans (h : SameOutsideField off len a b) (k : SameOutsideField off len b c) : SameOutsideField off len a c :=
  ⟨k.length.trans h.length, fun i hi => (k.getD i hi).trans (h.getD i hi)⟩

/-- A change within a field is a change within what holds the field. -/
theorem widen (h : SameOutsideField off len a b) (o n : Nat) (ho : o ≤ off) (hn : off + len ≤ o + n) :
    SameOutsideField o n a b :=
  ⟨h.length, fun i hi => h.getD i (by omega)⟩

end SameOutsideField

theorem clampField_clamped (off len lo hi below above : Nat) {size : Nat} (c : Clamped) (hs : c.img.length = size)
    (h : off + len ≤ size) (hb : lo ≤ below ∧ below ≤ hi) (ha : lo ≤ above ∧ above ≤ hi) (hhi : hi < 256 ^ len) :
    FieldClamped size off len lo hi c.img (clampField off len lo hi below above c).img := by
  subst hs
  obtain ⟨lower, upper⟩ := clampField_inRange off len lo hi below above c h
    ⟨hb.1, hb.2, by omega⟩ ⟨ha.1, ha.2, by omega⟩
  have length := (clampField_keeps off len lo hi below above c h).1
  exact ⟨⟨length, clampField_frame off len lo hi below above c h⟩, length, lower, upper⟩

theorem clampNearer_clamped (off len lo hi : Nat) {size : Nat} (c : Clamped) (hs : c.img.length = size)
    (h : off + len ≤ size) (hlo : lo ≤ hi) (hhi : hi < 256 ^ len) :
    FieldClamped size off len lo hi c.img (clampNearer off len lo hi c).img :=
  clampField_clamped off len lo hi lo hi c hs h ⟨le_refl _, hlo⟩ ⟨hlo, le_refl _⟩ hhi

theorem clampTo_clamped (off len lo hi v : Nat) {size : Nat} (c : Clamped) (hs : c.img.length = size)
    (h : off + len ≤ size) (hlo : lo ≤ v) (hv : v ≤ hi) (hhi : hi < 256 ^ len) :
    FieldClamped size off len lo hi c.img (clampTo off len lo hi v c).img :=
  clampField_clamped off len lo hi v v c hs h ⟨hlo, hv⟩ ⟨hlo, hv⟩ hhi

/-! ### The Channel Map (R146) -/

theorem clampChannelMap_clamped (img : List Byte) (h : img.length = 32) :
    (clampChannelMap img).img.length = 32 ∧ MapInRange (readChannelMap (clampChannelMap img).img) ∧
      duplicateIds (clampChannelMap img).img = duplicateIds img := by
  unfold clampChannelMap
  have s1 := clampTo_clamped 0 1 0 6 3 ⟨img, 0⟩ h (by norm_num) (by norm_num) (by norm_num) (by norm_num)
  generalize clampTo 0 1 0 6 3 ⟨img, 0⟩ = c1 at *
  have s2 := clampNearer_clamped 1 2 100 10000 c1 s1.size (by omega) (by norm_num) (by norm_num)
  generalize clampNearer 1 2 100 10000 c1 = c2 at *
  have s3 := clampTo_clamped 3 1 0 16 16 c2 s2.size (by omega) (by norm_num) (by norm_num) (by norm_num)
  generalize clampTo 3 1 0 16 16 c2 = c3 at *
  have s4 := clampNearer_clamped 7 3 1 8388607 c3 s3.size (by omega) (by norm_num) (by norm_num)
  generalize clampNearer 7 3 1 8388607 c3 = c4 at *
  have s5 := clampNearer_clamped 12 3 1 8388607 c4 s4.size (by omega) (by norm_num) (by norm_num)
  generalize clampNearer 12 3 1 8388607 c4 = c5 at *
  have s6 := clampNearer_clamped 17 3 1 8388607 c5 s5.size (by omega) (by norm_num) (by norm_num)
  generalize clampNearer 17 3 1 8388607 c5 = c6 at *
  refine ⟨s6.size, ?_, ?_⟩
  · simp (disch := omega) only [MapInRange, readChannelMap, readStream, s6.fieldAt, s5.fieldAt, s4.fieldAt, s3.fieldAt,
      s2.fieldAt]
    exact ⟨s1.upper, s2.lower, s2.upper, s3.upper, s4.lower, s4.upper, s5.lower, s5.upper, s6.lower, s6.upper⟩
  · rw [duplicateIds, duplicateIds, decide_eq_decide]
    simp (disch := omega) only [readChannelMap, readStream, s6.getD, s5.getD, s4.getD, s3.getD, s2.getD, s1.getD]

/-! ### The Band Table (R146) -/

/-- A shift's clamp brings the shift to at most 30 and leaves every other byte as it is. -/
theorem clampShift_getD (off : Nat) (c : Clamped) (h : off < c.img.length) (i : Nat) :
    (i ≠ off → (clampShift off c).img.getD i 0 = c.img.getD i 0) ∧
      ((clampShift off c).img.getD off 0).toNat % 32 ≤ 30 := by
  simp only [clampShift]
  split
  · rename_i h31
    have hfit : off + [c.img.getD off 0 - 1].length ≤ c.img.length := by simpa using h
    have hpred : (c.img.getD off 0 - 1).toNat = (c.img.getD off 0).toNat - 1 := by
      generalize c.img.getD off 0 = b at *
      bv_omega
    refine ⟨fun hi => ?_, ?_⟩
    · rw [writeAt_getD _ _ _ hfit, if_neg (by simp only [List.length_singleton]; omega)]
    · rw [writeAt_getD _ _ _ hfit, if_pos (by simp), Nat.sub_self, List.getD_cons_zero, hpred]
      omega
  · exact ⟨fun _ => rfl, by omega⟩

theorem clampShift_length (off : Nat) (c : Clamped) (h : off < c.img.length) :
    (clampShift off c).img.length = c.img.length := by
  simp only [clampShift]
  split
  · exact writeAt_length _ _ _ (by simpa using h)
  · rfl

/-- The bytes of the Band Table that hold a shift. -/
def shiftBytes : List Nat := [0, 1, 32, 33, 64, 65]

/-- One shift after another clamped. -/
theorem foldl_clampShift (offs : List Nat) (c : Clamped) (hin : ∀ off ∈ offs, off < c.img.length)
    (hnodup : offs.Nodup) :
    (offs.foldl (fun c off => clampShift off c) c).img.length = c.img.length ∧
      (∀ i ∉ offs, (offs.foldl (fun c off => clampShift off c) c).img.getD i 0 = c.img.getD i 0) ∧
      ∀ off ∈ offs, ((offs.foldl (fun c off => clampShift off c) c).img.getD off 0).toNat % 32 ≤ 30 := by
  induction offs generalizing c with
  | nil => exact ⟨rfl, fun _ _ => rfl, nofun⟩
  | cons off offs ih =>
    have hoff := hin off List.mem_cons_self
    have hlen := clampShift_length off c hoff
    obtain ⟨hnot, hrest⟩ := List.nodup_cons.mp hnodup
    obtain ⟨ihlen, ihother, ihshift⟩ := ih (clampShift off c)
      (fun o ho => hlen ▸ hin o (List.mem_cons_of_mem off ho)) hrest
    refine ⟨ihlen.trans hlen, fun i hi => ?_, fun o ho => ?_⟩
    · rw [List.mem_cons, not_or] at hi
      exact (ihother i hi.2).trans ((clampShift_getD off c hoff i).1 hi.1)
    · obtain rfl | ho := List.mem_cons.mp ho
      · rw [List.foldl_cons, ihother o hnot]
        exact (clampShift_getD o c hoff o).2
      · exact ihshift o ho

theorem clampBandTable_clamped (img : List Byte) (h : img.length = 96) :
    (clampBandTable img).img.length = 96 ∧ ∀ b, (readBand (clampBandTable img).img b).vShift ≤ 30 ∧
      (readBand (clampBandTable img).img b).hShift ≤ 30 := by
  have hfold : clampBandTable img = shiftBytes.foldl (fun c off => clampShift off c) ⟨img, 0⟩ := by
    simp only [clampBandTable, shiftBytes, List.foldl_cons, List.foldl_nil]
  have hin : ∀ off ∈ shiftBytes, off < (⟨img, 0⟩ : Clamped).img.length := by
    intro off hoff
    have : off < 96 := by
      revert off
      decide
    exact h ▸ this
  obtain ⟨hlen, -, hshift⟩ := foldl_clampShift shiftBytes ⟨img, 0⟩ hin (by decide)
  rw [hfold]
  refine ⟨hlen.trans h, fun b => ?_⟩
  cases b
  · exact ⟨hshift 0 (by decide), hshift 1 (by decide)⟩
  · exact ⟨hshift 32 (by decide), hshift 33 (by decide)⟩
  · exact ⟨hshift 64 (by decide), hshift 65 (by decide)⟩

/-! ### The Detection Profiles (R147) -/

/-- A profile clamped is in its ranges, each field against the clamped values before it, and the rest of the image is as
it was. -/
theorem clampProfile_clamped (d : Det) (c : Clamped) (h : profOffset d + 16 ≤ c.img.length) :
    ProfileInRange (readProfile (clampProfile d c).img d) ∧
      SameOutsideField (profOffset d) 16 c.img (clampProfile d c).img := by
  simp only [clampProfile, readProfile]
  generalize profOffset d = o at *
  have s1 := clampNearer_clamped o 1 1 8 c rfl (by omega) (by norm_num) (by norm_num)
  generalize clampNearer o 1 1 8 c = c1 at *
  have ksLow := s1.lower
  have ksHigh := s1.upper
  have s2 := clampNearer_clamped (o + 1) 1 (fieldAt c1.img o 1 + 1) 15 c1 s1.size (by omega) (by omega) (by norm_num)
  generalize clampNearer (o + 1) 1 (fieldAt c1.img o 1 + 1) 15 c1 = c2 at *
  have s3 := clampNearer_clamped (o + 2) 2 17 1023 c2 s2.size (by omega) (by norm_num) (by norm_num)
  generalize clampNearer (o + 2) 2 17 1023 c2 = c3 at *
  have onLow := s3.lower
  have onHigh := s3.upper
  have s4 := clampNearer_clamped (o + 4) 2 16 (fieldAt c3.img (o + 2) 2 - 1) c3 s3.size (by omega) (by omega)
    (by norm_num; omega)
  generalize clampNearer (o + 4) 2 16 (fieldAt c3.img (o + 2) 2 - 1) c3 = c4 at *
  have s5 := clampTo_clamped (o + 6) 3 1 16777215 1 c4 s4.size (by omega) (by norm_num) (by norm_num) (by norm_num)
  generalize clampTo (o + 6) 3 1 16777215 1 c4 = c5 at *
  have s6 := clampNearer_clamped (o + 9) 2 16 1023 c5 s5.size (by omega) (by norm_num) (by norm_num)
  generalize clampNearer (o + 9) 2 16 1023 c5 = c6 at *
  have s7 := clampNearer_clamped (o + 11) 1 1 127 c6 s6.size (by omega) (by norm_num) (by norm_num)
  generalize clampNearer (o + 11) 1 1 127 c6 = c7 at *
  have hkl : fieldAt c7.img (o + 1) 1 = fieldAt c2.img (o + 1) 1 := by
    simp (disch := omega) only [s7.fieldAt, s6.fieldAt, s5.fieldAt, s4.fieldAt, s3.fieldAt]
  have hpow : 2 ^ fieldAt c7.img (o + 1) 1 ≤ 65535 :=
    (Nat.pow_le_pow_right (by norm_num) (hkl ▸ s2.upper)).trans (by norm_num : 2 ^ 15 ≤ 65535)
  have s8 := clampTo_clamped (o + 12) 2 (2 ^ fieldAt c7.img (o + 1) 1) 65535 (2 ^ fieldAt c7.img (o + 1) 1) c7 s7.size
    (by omega) (le_refl _) hpow (by norm_num)
  generalize clampTo (o + 12) 2 (2 ^ fieldAt c7.img (o + 1) 1) 65535 (2 ^ fieldAt c7.img (o + 1) 1) c7 = c8 at *
  have s9 := clampTo_clamped (o + 14) 2 1 65535 1 c8 s8.size (by omega) (by norm_num) (by norm_num) (by norm_num)
  generalize clampTo (o + 14) 2 1 65535 1 c8 = c9 at *
  refine ⟨?_, ?_⟩
  · have offHigh := s4.upper
    simp (disch := omega) only [ProfileInRange, s9.fieldAt, s8.fieldAt, s7.fieldAt, s6.fieldAt, s5.fieldAt,
      s4.fieldAt, s3.fieldAt, s2.fieldAt]
    exact ⟨ksLow, ksHigh, s2.lower, s2.upper, onLow, onHigh, s4.lower, by omega, s5.lower, s6.lower, s6.upper,
      s7.lower, s7.upper, hkl ▸ s8.lower, s9.lower⟩
  · have within : ∀ {off len : Nat} {a b : List Byte}, SameOutsideField off len a b → o ≤ off → off + len ≤ o + 16 →
        SameOutsideField o 16 a b := fun s ho hn => s.widen o 16 ho hn
    exact (within s1.1 (by omega) (by omega)).trans ((within s2.1 (by omega) (by omega)).trans
      ((within s3.1 (by omega) (by omega)).trans ((within s4.1 (by omega) (by omega)).trans
      ((within s5.1 (by omega) (by omega)).trans ((within s6.1 (by omega) (by omega)).trans
      ((within s7.1 (by omega) (by omega)).trans ((within s8.1 (by omega) (by omega)).trans
      (within s9.1 (by omega) (by omega)))))))))

/-- The profiles stand apart in their image. -/
theorem profOffset_apart {d e : Det} (h : d ≠ e) :
    profOffset e + 16 ≤ profOffset d ∨ profOffset d + 16 ≤ profOffset e := by
  revert h
  cases d <;> cases e <;> decide

theorem profOffset_le (d : Det) : profOffset d ≤ 120 := by
  cases d <;> decide

/-- A change outside a profile leaves it as it is. -/
theorem readProfile_of_sameOutside {d e : Det} {a b : List Byte} (h : SameOutsideField (profOffset d) 16 a b)
    (hne : d ≠ e) : readProfile b e = readProfile a e := by
  have apart := profOffset_apart hne
  simp (disch := omega) only [readProfile, h.fieldAt]

/-- One profile after another clamped. -/
theorem foldl_clampProfile (ds : List Det) (c : Clamped) (hlen : c.img.length = 144) (hnodup : ds.Nodup) :
    (ds.foldl (fun c d => clampProfile d c) c).img.length = 144 ∧
      (∀ e ∉ ds, readProfile (ds.foldl (fun c d => clampProfile d c) c).img e = readProfile c.img e) ∧
      ∀ e ∈ ds, ProfileInRange (readProfile (ds.foldl (fun c d => clampProfile d c) c).img e) := by
  induction ds generalizing c with
  | nil => exact ⟨hlen, fun _ _ => rfl, nofun⟩
  | cons d ds ih =>
    have hd := profOffset_le d
    obtain ⟨hrange, houtside⟩ := clampProfile_clamped d c (by omega)
    obtain ⟨hnot, hrest⟩ := List.nodup_cons.mp hnodup
    obtain ⟨ihlen, ihother, ihrange⟩ := ih (clampProfile d c) (houtside.length.trans hlen) hrest
    rw [List.foldl_cons]
    refine ⟨ihlen, fun e he => ?_, fun e he => ?_⟩
    · rw [List.mem_cons, not_or] at he
      rw [ihother e he.2]
      exact readProfile_of_sameOutside houtside (Ne.symm he.1)
    · obtain rfl | he := List.mem_cons.mp he
      · rw [ihother e hnot]
        exact hrange
      · exact ihrange e he

theorem clampProfiles_clamped (img : List Byte) (h : img.length = 144) :
    (clampProfiles img).img.length = 144 ∧ ∀ d, ProfileInRange (readProfile (clampProfiles img).img d) := by
  obtain ⟨hlen, -, hrange⟩ := foldl_clampProfile Det.all ⟨img, 0⟩ h (by decide)
  rw [clampProfiles]
  exact ⟨hlen, fun d => hrange d (by cases d <;> decide)⟩

/-! ### The Event Rules (R147) -/

theorem clampRules_clamped (img : List Byte) (h : img.length = 32) :
    (clampRules img).img.length = 32 ∧ RulesInRange (readRules (clampRules img).img) := by
  simp only [clampRules]
  have s1 := clampNearer_clamped 0 1 4 64 ⟨img, 0⟩ h (by norm_num) (by norm_num) (by norm_num)
  generalize clampNearer 0 1 4 64 ⟨img, 0⟩ = c1 at *
  have s2 := clampNearer_clamped 1 2 16 1023 c1 s1.size (by omega) (by norm_num) (by norm_num)
  generalize clampNearer 1 2 16 1023 c1 = c2 at *
  have s3 := clampNearer_clamped 3 2 16 1023 c2 s2.size (by omega) (by norm_num) (by norm_num)
  generalize clampNearer 3 2 16 1023 c2 = c3 at *
  have s4 := clampNearer_clamped 5 2 16 1023 c3 s3.size (by omega) (by norm_num) (by norm_num)
  generalize clampNearer 5 2 16 1023 c3 = c4 at *
  have s5 := clampTo_clamped 7 2 1 65535 1 c4 s4.size (by omega) (by norm_num) (by norm_num) (by norm_num)
  generalize clampTo 7 2 1 65535 1 c4 = c5 at *
  have s6 := clampTo_clamped 9 2 (fieldAt c5.img 7 2) 65535 (fieldAt c5.img 7 2) c5 s5.size (by omega)
    (le_refl _) s5.upper (by norm_num)
  generalize clampTo 9 2 (fieldAt c5.img 7 2) 65535 (fieldAt c5.img 7 2) c5 = c6 at *
  have s7 := clampTo_clamped 12 2 1 65535 1 c6 s6.size (by omega) (by norm_num) (by norm_num) (by norm_num)
  generalize clampTo 12 2 1 65535 1 c6 = c7 at *
  have hsMax : fieldAt c7.img 9 2 = fieldAt c6.img 9 2 := s7.fieldAt 9 2 (by omega)
  have hfm : fieldAt c7.img 0 1 = fieldAt c1.img 0 1 := by
    simp (disch := omega) only [s7.fieldAt, s6.fieldAt, s5.fieldAt, s4.fieldAt, s3.fieldAt, s2.fieldAt]
  have hmax : fieldAt c7.img 9 2 + fieldAt c7.img 0 1 ≤ 1000000 := by
    have := s6.upper
    have := s1.upper
    omega
  have s8 := clampNearer_clamped 14 4 (fieldAt c7.img 9 2 + fieldAt c7.img 0 1) 1000000 c7 s7.size (by omega)
    hmax (by norm_num)
  generalize clampNearer 14 4 (fieldAt c7.img 9 2 + fieldAt c7.img 0 1) 1000000 c7 = c8 at *
  have s9 := clampNearer_clamped 18 1 8 32 c8 s8.size (by omega) (by norm_num) (by norm_num)
  generalize clampNearer 18 1 8 32 c8 = c9 at *
  refine ⟨s9.size, ?_⟩
  have life := s8.lower
  rw [hsMax, hfm] at life
  simp (disch := omega) only [RulesInRange, readRules, s9.fieldAt, s8.fieldAt, s7.fieldAt, s6.fieldAt, s5.fieldAt,
    s4.fieldAt, s3.fieldAt, s2.fieldAt]
  exact ⟨s1.lower, s1.upper, s2.lower, s2.upper, s3.lower, s3.upper, s4.lower, s4.upper, s5.lower, s6.lower, s7.lower,
    life, s8.upper, s9.lower, s9.upper⟩

/-! ### The four images (R144, R145) -/

theorem clampAll_chan (t : PerTable (List Byte)) : (clampAll t).1.chan = (clampChannelMap t.chan).img := by
  simp only [clampAll]

theorem clampAll_band (t : PerTable (List Byte)) : (clampAll t).1.band = (clampBandTable t.band).img := by
  simp only [clampAll]

theorem clampAll_prof (t : PerTable (List Byte)) : (clampAll t).1.prof = (clampProfiles t.prof).img := by
  simp only [clampAll]

theorem clampAll_rules (t : PerTable (List Byte)) : (clampAll t).1.rules = (clampRules t.rules).img := by
  simp only [clampAll]

/-- Clamped images are in range, of their sizes, and with the channel ids they had. -/
theorem clampAll_clamped (t : PerTable (List Byte)) (h : ImagesSized t) :
    ImagesSized (clampAll t).1 ∧ InRange (clampAll t).1 ∧
      duplicateIds (clampAll t).1.chan = duplicateIds t.chan := by
  obtain ⟨hchan, hband, hprof, hrules⟩ := h
  obtain ⟨chanLength, chanRange, ids⟩ := clampChannelMap_clamped t.chan hchan
  obtain ⟨bandLength, bandRange⟩ := clampBandTable_clamped t.band hband
  obtain ⟨profLength, profRange⟩ := clampProfiles_clamped t.prof hprof
  obtain ⟨rulesLength, rulesRange⟩ := clampRules_clamped t.rules hrules
  rw [ImagesSized, InRange, clampAll_chan, clampAll_band, clampAll_prof, clampAll_rules]
  exact ⟨⟨chanLength, bandLength, profLength, rulesLength⟩, ⟨chanRange, bandRange, profRange, rulesRange⟩, ids⟩

/-! ### The tables stay legal -/

/-- Images that a swap may make active (R144, R145). -/
def Legal (t : PerTable (List Byte)) : Prop := InRange t ∧ duplicateIds t.chan = false

theorem tablesLegal_iff (s : State) : TablesLegal s ↔ BankFits s ∧ TablesSized s ∧
    (s.tables.valid.chan = true → Legal s.tables.active) ∧ (s.tables.commit ≠ .none → Legal s.tables.shadow) :=
  Iff.rfl

/-- The condition depends on the images, the marks, the picker state and the commit state alone. -/
theorem tablesLegal_congr {s t : State} (h : TablesLegal s) (hshadow : t.tables.shadow = s.tables.shadow)
    (hactive : t.tables.active = s.tables.active) (hvalid : t.tables.valid = s.tables.valid)
    (hcommit : t.tables.commit = s.tables.commit) (hpicker : t.tables.picker = s.tables.picker) : TablesLegal t := by
  obtain ⟨hbank, hsized, hlegal, hpending⟩ := (tablesLegal_iff s).mp h
  refine (tablesLegal_iff t).mpr ⟨bankFits_congr hbank hvalid hpicker hcommit, ?_, ?_, ?_⟩
  · unfold TablesSized
    rwa [hshadow, hactive]
  · rwa [hvalid, hactive]
  · rwa [hcommit, hshadow]

theorem tablesLegal_of_tables {s t : State} (h : TablesLegal s) (e : t.tables = s.tables) : TablesLegal t :=
  tablesLegal_congr h (by rw [e]) (by rw [e]) (by rw [e]) (by rw [e]) (by rw [e])

/-- A swap makes legal shadow images active (R149). -/
theorem tablesLegal_of_swapped {s t : State} (hsized : TablesSized s) (hlegal : Legal s.tables.shadow)
    (e : t.tables = (swapTables s).tables) : TablesLegal t := by
  refine (tablesLegal_iff t).mpr ⟨bankFits_of_swapped e, ?_, fun _ => ?_, fun hc => ?_⟩
  · unfold TablesSized
    rw [e, swapTables_tables_shadow, swapTables_tables_active]
    exact ⟨hsized.1, hsized.1⟩
  · rwa [e, swapTables_tables_active]
  · rw [e, swapTables_tables_commit] at hc
    exact absurd rfl hc

/-- A commit state that comes with legal shadow images, pending only while RUNNING. -/
theorem tablesLegal_setCommit {s : State} (c : CommitState) (h : TablesLegal s)
    (hc : c ≠ .none → s.tables.picker = .running ∧ Legal s.tables.shadow) : TablesLegal (s.setCommit c) := by
  obtain ⟨hbank, hsized, hactive, -⟩ := (tablesLegal_iff s).mp h
  exact (tablesLegal_iff _).mpr ⟨bankFits_setCommit c hbank (fun hne => (hc hne).1), hsized, hactive,
    fun hne => (hc hne).2⟩

/-- A pending commit has frozen legal shadow images, and the picker is RUNNING. -/
theorem legal_of_pending {s : State} (h : TablesLegal s) (hc : s.tables.commit ≠ .none) :
    s.tables.picker = .running ∧ Legal s.tables.shadow := by
  obtain ⟨⟨-, -, -, -, hpicker⟩, -, -, hlegal⟩ := (tablesLegal_iff s).mp h
  exact ⟨hpicker hc, hlegal hc⟩

theorem tablesSized_of_legal {s : State} (h : TablesLegal s) : TablesSized s := by
  obtain ⟨-, hsized, -, -⟩ := h
  exact hsized

/-- A commit executed on legal shadow images swaps them in or freezes them. -/
theorem tablesLegal_startCommit (limit : Nat) {s : State} (h : TablesLegal s) (hlegal : Legal s.tables.shadow) :
    TablesLegal (startCommit limit s) := by
  have hbank : BankFits s := h.1
  have hsized := tablesSized_of_legal h
  obtain ⟨hn, e | e⟩ | e | ⟨hrunning, e | ⟨c, -, e⟩⟩ := startCommit_cases limit s <;> rw [e]
  · exact tablesLegal_of_swapped hsized hlegal (swapPlain_tables s)
  · exact tablesLegal_setCommit _ h (fun _ => ⟨picker_of_needsBandReset hbank hn, hlegal⟩)
  · exact tablesLegal_of_swapped hsized hlegal (swapWithReset_tables s)
  · exact tablesLegal_of_swapped hsized hlegal (forcedSwap_tables s)
  · exact tablesLegal_setCommit c h (fun _ => ⟨hrunning, hlegal⟩)

/-- A write within its image keeps the sizes (R142). -/
theorem imagesSized_set {t : PerTable (List Byte)} (h : ImagesSized t) (k : Table) (img : List Byte)
    (hlen : img.length = (t.get k).length) : ImagesSized (t.set k img) := by
  obtain ⟨hchan, hband, hprof, hrules⟩ := h
  cases k
  · exact ⟨hlen.trans hchan, hband, hprof, hrules⟩
  · exact ⟨hchan, hlen.trans hband, hprof, hrules⟩
  · exact ⟨hchan, hband, hlen.trans hprof, hrules⟩
  · exact ⟨hchan, hband, hprof, hlen.trans hrules⟩

theorem length_of_imagesSized {t : PerTable (List Byte)} (h : ImagesSized t) (k : Table) :
    (t.get k).length = k.size := by
  obtain ⟨hchan, hband, hprof, hrules⟩ := h
  cases k <;> assumption

theorem tablesSized_resetWith (straps : BitVec 2) (pending : List Instr) :
    TablesSized (State.resetWith straps pending) := by
  have zeros : ImagesSized PerTable.zeros := by decide
  exact ⟨zeros, zeros⟩

theorem coreKeeps_tablesLegal : CoreKeeps TablesLegal where
  same k h := tablesLegal_congr h k.shadow k.active k.valid k.commit k.picker
  reset straps pending :=
    ⟨bankFits_resetWith straps pending, tablesSized_resetWith straps pending, nofun, fun hc => absurd rfl hc⟩
  takeCopy c s h := tablesLegal_of_tables h (takeCopy_tables c s)
  gap id s h _ := tablesLegal_of_tables h (longGap_tables s)
  issue index alignTime heads s h _ := h
  restart s h _ := h
  results h _ _ htables := tablesLegal_of_tables h htables
  closure cause s h := tablesLegal_of_tables h (forcedClosure_tables cause s)
  commit c s h hc _ := tablesLegal_setCommit c h (fun hne => legal_of_pending h (hc hne))
  swapPlain s h hc := by
    obtain ⟨-, hlegal⟩ := legal_of_pending h (by simp [hc])
    exact tablesLegal_of_swapped (tablesSized_of_legal h) hlegal (swapPlain_tables s)
  swapWithReset s h hc :=
    tablesLegal_of_swapped (tablesSized_of_legal h) (legal_of_pending h hc).2 (swapWithReset_tables s)
  write a s h hc hwithin := by
    obtain ⟨hbank, ⟨hshadow, hactive⟩, hlegal, -⟩ := h
    have hlen : (writeAt (s.tables.shadow.get a.table) a.offset a.data).length =
        (s.tables.shadow.get a.table).length :=
      writeAt_length _ _ _ (by rwa [length_of_imagesSized hshadow])
    exact ⟨hbank, ⟨imagesSized_set hshadow a.table _ hlen, hactive⟩, hlegal, fun hne => absurd hc hne⟩
  execute limit s h hc hdup := by
    obtain ⟨hbank, ⟨hshadow, hactive⟩, hlegal, -⟩ := h
    obtain ⟨hsized, hrange, hids⟩ := clampAll_clamped s.tables.shadow hshadow
    obtain ⟨flags, e⟩ := clampShadow_eq s
    rw [e]
    exact tablesLegal_startCommit limit ⟨hbank, ⟨hsized, hactive⟩, hlegal, fun hne => absurd hc hne⟩
      ⟨hrange, hids.trans hdup⟩

/-- Settles O59: only a swap changes the active images, and it takes shadow images that a commit has clamped, with
distinct ids, and frozen. -/
theorem activeTablesStayLegal : Obligations.ActiveTablesStayLegal := coreKeeps_tablesLegal.kept

end Sys2Proof.Proofs
end

section
/-! PROOFS. The treatment of samples, and how a usable frame lies against its component's grid (R21, R25 to R27). -/

namespace Sys2Proof.Proofs

open Sys2Proof Sys2Proof.Machine Sys2Proof.Safety

/-! ### Treatment (R21) -/

/-- The inversion of a 24-bit sample is its negation, but for the lone sample whose negation is too large. -/
theorem invertSample_eq {v : Int} (h : Fits24 v) : invertSample v = min (-v) 8388607 := by
  obtain ⟨hlow, hhigh⟩ := h
  unfold invertSample
  split <;> omega

theorem treat_value_plain {cfg : StreamCfg} (h : cfg.invert = false) (v : Int) : (treat cfg v).value = v := by
  simp [treat, h]

theorem treat_value_inverted {cfg : StreamCfg} {v : Int} (h : cfg.invert = true) (hv : Fits24 v) :
    (treat cfg v).value = min (-v) 8388607 := by
  simp [treat, h, invertSample_eq hv]

theorem treat_clip_iff (cfg : StreamCfg) (v : Int) : (treat cfg v).clip = true ↔
    (cfg.clip : Int) ≤ (treat cfg v).value ∨ (treat cfg v).value ≤ -(cfg.clip : Int) := by
  simp only [treat, decide_eq_true_eq]
  omega

/-! ### Offsets (R25 to R27) -/

section
variable {period expected start : Nat}

theorem offsetOf_continuous (hlow : -((period : Int) / 2) ≤ (start : Int) - expected)
    (hhigh : (start : Int) - expected ≤ (period : Int) / 2) : offsetOf period expected start = .continuous := by
  unfold offsetOf
  rw [if_neg (by omega), if_neg (by omega)]

theorem offsetOf_gap {g : Nat} (h : (period : Int) / 2 < (start : Int) - expected)
    (hg : (g : Int) = ((start : Int) - expected + (period : Int) / 2) / period) :
    offsetOf period expected start = .gap g := by
  unfold offsetOf
  rw [if_pos h, ← hg, Int.toNat_natCast]

theorem offsetOf_overlap {k : Nat} (h : (start : Int) - expected < -((period : Int) / 2))
    (hk : (k : Int) = (-((start : Int) - expected) + (period : Int) / 2) / period) :
    offsetOf period expected start = .overlap k := by
  unfold offsetOf
  rw [if_neg (by omega), if_pos h, ← hk, Int.toNat_natCast]

variable (period expected start)

/-- The number of whole periods by which a frame's distance from the grid is divided is no negative number. -/
theorem exists_periods {x : Int} (h : 0 ≤ x) : ∃ g : Nat, (g : Int) = (x + (period : Int) / 2) / period :=
  ⟨_, Int.toNat_of_nonneg (Int.ediv_nonneg (by omega) (by omega))⟩

/-- How a start time lies against the expected one. -/
theorem offsetOf_cases :
    (-((period : Int) / 2) ≤ (start : Int) - expected ∧ (start : Int) - expected ≤ (period : Int) / 2 ∧
      offsetOf period expected start = .continuous) ∨
    (∃ g : Nat, (period : Int) / 2 < (start : Int) - expected ∧
      (g : Int) = ((start : Int) - expected + (period : Int) / 2) / period ∧
      offsetOf period expected start = .gap g) ∨
    (∃ k : Nat, (start : Int) - expected < -((period : Int) / 2) ∧
      (k : Int) = (-((start : Int) - expected) + (period : Int) / 2) / period ∧
      offsetOf period expected start = .overlap k) := by
  by_cases hgap : (period : Int) / 2 < (start : Int) - expected
  · obtain ⟨g, hg⟩ := exists_periods period (x := (start : Int) - expected) (by omega)
    exact .inr (.inl ⟨g, hgap, hg, offsetOf_gap hgap hg⟩)
  · by_cases hover : (start : Int) - expected < -((period : Int) / 2)
    · obtain ⟨k, hk⟩ := exists_periods period (x := -((start : Int) - expected)) (by omega)
      exact .inr (.inr ⟨k, hover, hk, offsetOf_overlap hover hk⟩)
    · exact .inl ⟨by omega, by omega, offsetOf_continuous (by omega) (by omega)⟩

end

/-- The quotient of a distance beyond half a period brings it within half a period of the grid, half-way from above
taken as the later grid time. -/
theorem nearest_period {period : Nat} {x : Int} {g : Nat} (hpos : 0 < period) (heven : period % 2 = 0)
    (hx : (period : Int) / 2 < x) (hg : (g : Int) = (x + (period : Int) / 2) / period) :
    1 ≤ g ∧ (period : Int) < 2 * x ∧ -(period : Int) ≤ 2 * (x - g * period) ∧ 2 * (x - g * period) < period := by
  have hp : (0 : Int) < period := by exact_mod_cast hpos
  have hone : (1 : Int) ≤ g := hg ▸ (Int.le_ediv_iff_mul_le hp).mpr (by omega)
  have hbelow : (g : Int) * period ≤ x + (period : Int) / 2 := hg ▸ Int.ediv_mul_le _ hp.ne'
  have habove : x + (period : Int) / 2 < ((g : Int) + 1) * period := hg ▸ Int.lt_ediv_add_one_mul_self _ hp
  rw [Int.add_mul, Int.one_mul] at habove
  exact ⟨by omega, by omega, by omega, by omega⟩

/-- Settles O15: the treatment by the invert setting, and the offset by the sign of the distance. -/
theorem samplesAreTreatedAndPlacedNearest : Obligations.SamplesAreTreatedAndPlacedNearest := by
  refine ⟨fun cfg v hv hclip hlimit => ?_, ?_⟩
  · have fits := hv
    obtain ⟨hlow, hhigh⟩ := hv
    refine ⟨?_, fun h => treat_value_plain h v, fun h => treat_value_inverted h fits, treat_clip_iff cfg v, fun h => ?_⟩
    · cases hi : cfg.invert with
      | false => rwa [treat_value_plain hi]
      | true =>
        rw [treat_value_inverted hi fits]
        exact ⟨by omega, by omega⟩
    · rw [treat_clip_iff]
      cases hi : cfg.invert with
      | false =>
        rw [treat_value_plain hi]
        omega
      | true =>
        rw [treat_value_inverted hi fits]
        omega
  · intro period expected start hpos heven d
    obtain ⟨hlow, hhigh, e⟩ | ⟨g, hgap, hg, e⟩ | ⟨k, hover, hk, e⟩ := offsetOf_cases period expected start <;> rw [e]
    · exact ⟨by omega, by omega⟩
    · exact nearest_period hpos heven hgap hg
    · obtain ⟨hone, hfar, hnear⟩ := nearest_period hpos heven (x := -d) (by omega) hk
      exact ⟨hone, by omega, hnear⟩

end Sys2Proof.Proofs
end

section
/-! PROOFS. A copy of a usable frame taken: placed, unused, a long gap, or the first of its component (R23 to R31). -/

namespace Sys2Proof.Proofs

open Sys2Proof Sys2Proof.Machine Sys2Proof.Safety

/-! ### The samples on the grid (R22, R28) -/

/-- A bridge and the samples behind it are one run of samples on the grid, the first of them marked bridged. -/
theorem gridSlots_append_gridSlots (p t : Nat) (bridge xs : List Sample) :
    gridSlots p true t bridge ++ gridSlots p false (t + bridge.length * p) xs =
      onGridFrom p t bridge.length (bridge ++ xs) := by
  apply List.ext_getElem?
  intro i
  rw [onGridFrom, List.getElem?_mapIdx, List.getElem?_append, List.getElem?_append, gridSlots_length]
  by_cases hi : i < bridge.length
  · simp only [hi, if_true, gridSlots_getElem, decide_true]
  · have htime : t + bridge.length * p + (i - bridge.length) * p = t + i * p := by
      rw [Nat.add_assoc, ← Nat.add_mul, Nat.add_sub_cancel' (Nat.le_of_not_lt hi)]
    simp only [hi, if_false, gridSlots_getElem, decide_false, htime]

/-- Samples appended to a buffer that holds them: as many bridged copies as are missing, then the samples (R26, R28). -/
theorem appendAt_of_fits {p t fill : Nat} {x last : Sample} {xs : List Sample} {c : CompState}
    (h : c.buffer.length + (fill + xs.length) ≤ 128) :
    appendAt p t (List.replicate fill x) xs last c = .append
      ⟨some ⟨t + (fill + xs.length) * p, xs.getLastD last⟩,
        c.buffer ++ onGridFrom p t fill (List.replicate fill x ++ xs)⟩ := by
  have hfit : ¬ Config.bufferDepth < c.buffer.length + (List.replicate fill x).length + xs.length := by
    rw [List.length_replicate, Config.bufferDepth]
    omega
  have hgrid := gridSlots_append_gridSlots p t (List.replicate fill x) xs
  rw [List.length_replicate] at hgrid
  rw [appendAt, if_neg hfit]
  simp only [List.length_replicate, List.append_assoc, hgrid, Nat.add_mul, Nat.add_assoc]

theorem appendAt_of_overfull {p t : Nat} {bridge xs : List Sample} {last : Sample} {c : CompState}
    (h : 128 < c.buffer.length + bridge.length + xs.length) : appendAt p t bridge xs last c = .longGap := by
  rw [appendAt, if_pos (show Config.bufferDepth < _ from h)]

/-- A frame anchors its component when a buffer holds it (R23). -/
theorem anchorAt_of_fits {p start : Nat} {xs : List Sample} {c : CompState} (hempty : c.buffer = [])
    (h : xs.length ≤ 128) : anchorAt p start xs c =
      .append ⟨some ⟨start + xs.length * p, xs.getLastD ⟨0, false⟩⟩, onGridFrom p start 0 xs⟩ := by
  have fits := appendAt_of_fits (p := p) (t := start) (fill := 0) (x := ⟨0, false⟩) (last := ⟨0, false⟩) (xs := xs)
    (c := c) (by simpa [hempty] using h)
  rwa [Nat.zero_add, hempty] at fits

/-! ### Placement by the offset (R25 to R28) -/

section
variable {m : ChannelMap} {start : Nat} {xs : List Sample} {c : CompState} {a : Anchor} (ha : c.anchor = some a)
include ha

theorem place_continuous (h : offsetOf (periodOf m.rate) a.expected start = .continuous) :
    place m start xs c = appendAt (periodOf m.rate) a.expected [] xs a.last c := by
  simp only [place, ha, h]

theorem place_gap {g : Nat} (h : offsetOf (periodOf m.rate) a.expected start = .gap g) :
    place m start xs c =
      if g ≤ m.bridge then appendAt (periodOf m.rate) a.expected (List.replicate g a.last) xs a.last c
      else .longGap := by
  simp only [place, ha, h]

theorem place_overlap {k : Nat} (h : offsetOf (periodOf m.rate) a.expected start = .overlap k) :
    place m start xs c =
      if xs.length ≤ k then .unused else appendAt (periodOf m.rate) a.expected [] (xs.drop k) a.last c := by
  simp only [place, ha, h]

end

/-! ### The counts of a frame (R26, R27) -/

section
variable {comp : Comp} {start : Nat} {s : State} {a : Anchor}

theorem counted_unanchored (h : (s.asm.comps.get comp).anchor = none) :
    overlapCounted comp start s = s ∧ bridgeCounted comp start s = s := by
  simp [overlapCounted, bridgeCounted, overlaps, followsGap, h]

variable (ha : (s.asm.comps.get comp).anchor = some a)
include ha

theorem bridgeCounted_continuous (h : offsetOf s.period a.expected start = .continuous) :
    bridgeCounted comp start s = s := by
  have h' : offsetOf (periodOf s.chanMap.rate) a.expected start = .continuous := h
  simp [bridgeCounted, followsGap, ha, h']

theorem bridgeCounted_gap {g : Nat} (h : offsetOf s.period a.expected start = .gap g) :
    bridgeCounted comp start s = s.bump .bridges 1 := by
  have h' : offsetOf (periodOf s.chanMap.rate) a.expected start = .gap g := h
  simp [bridgeCounted, followsGap, ha, h']

theorem bridgeCounted_overlap {k : Nat} (h : offsetOf s.period a.expected start = .overlap k) :
    bridgeCounted comp start s = s := by
  have h' : offsetOf (periodOf s.chanMap.rate) a.expected start = .overlap k := h
  simp [bridgeCounted, followsGap, ha, h']

/-- An overlap is counted when the frame starts more than half a period before its expected time. -/
theorem overlapCounted_eq : overlapCounted comp start s =
    if (start : Int) - a.expected < -((s.period : Int) / 2) then (s.bump .overlaps 1).latch .overlap else s := by
  have hoffset : ∀ o, offsetOf s.period a.expected start = o →
      offsetOf (periodOf s.chanMap.rate) a.expected start = o := fun _ => id
  obtain ⟨hlow, -, e⟩ | ⟨g, hgap, -, e⟩ | ⟨k, hover, -, e⟩ := offsetOf_cases s.period a.expected start
  · rw [if_neg (by omega)]
    simp [overlapCounted, overlaps, ha, hoffset _ e]
  · rw [if_neg (by omega)]
    simp [overlapCounted, overlaps, ha, hoffset _ e]
  · rw [if_pos hover]
    simp [overlapCounted, overlaps, ha, hoffset _ e]

end

/-! ### SAMPLE_COPY_TAKEN -/

section
variable {c : SampleCopy} {rest : List AsmItem} {s : State} (hn : nextTriad s = none)
  (hi : s.asm.inbox = .copy c :: rest)
include hn hi

theorem exec_sampleCopyTaken : exec .sampleCopyTaken s =
    .next (takeCopy c { s with asm := { s.asm with inbox := rest } }) := by
  simp only [exec, execSampleCopyTaken, hn, hi]

/-- A usable frame, its stall timer restarted. -/
theorem exec_sampleCopyTaken_usable {stream : Comp} (hs : s.streamOf c.channel = some stream)
    (hr : c.rate = s.chanMap.rate) : exec .sampleCopyTaken s = .next (takeUsable (s.chanMap.component stream) c.start
      (c.samples.map (treat (s.chanMap.streams.get stream))) (frameTaken rest stream s)) := by
  rw [exec_sampleCopyTaken hn hi]
  exact congrArg _ (takeCopy_usable hs hr)

end

/-- A judgement is made in UNSYNCED alone. -/
theorem judgeAlignment_eq_ite {s u : State} (h : u.asm.phase = s.asm.phase) :
    judgeAlignment u = if s.asm.phase = .unsynced then judgeAlignment u else u := by
  split
  · rfl
  · rename_i haligned
    exact judgeAlignment_of_aligned (h ▸ haligned)

section
variable {comp : Comp} {start : Nat} {xs : List Sample} {s : State} {a : Anchor}
  (ha : (s.asm.comps.get comp).anchor = some a)
include ha

/-- A continuous frame goes behind the buffer (R25). -/
theorem takeUsable_continuous (hlow : -((s.period : Int) / 2) ≤ (start : Int) - a.expected)
    (hhigh : (start : Int) - a.expected ≤ (s.period : Int) / 2)
    (hfit : (s.asm.comps.get comp).buffer.length + xs.length ≤ 128) :
    takeUsable comp start xs s = judgeAlignment (s.setComp comp
      ⟨some ⟨a.expected + (0 + xs.length) * s.period, xs.getLastD a.last⟩,
        (s.asm.comps.get comp).buffer ++ onGridFrom s.period a.expected 0 (List.replicate 0 a.last ++ xs)⟩) := by
  have hoffset := offsetOf_continuous hlow hhigh
  have placed : place s.chanMap start xs (s.asm.comps.get comp) = .append _ :=
    (place_continuous ha hoffset).trans (appendAt_of_fits (fill := 0) (x := a.last) (by omega))
  rw [takeUsable_of_append placed, overlapCounted_eq ha, if_neg (by omega), bridgeCounted_continuous ha hoffset]
  rfl

/-- A frame after a gap within the bridge limit goes behind as many bridged copies as are missing (R26). -/
theorem takeUsable_bridged {g : Nat} (hgap : (s.period : Int) / 2 < (start : Int) - a.expected)
    (hg : (g : Int) = ((start : Int) - a.expected + (s.period : Int) / 2) / s.period) (hbridge : g ≤ s.chanMap.bridge)
    (hfit : (s.asm.comps.get comp).buffer.length + (g + xs.length) ≤ 128) :
    takeUsable comp start xs s = judgeAlignment ((s.bump .bridges 1).setComp comp
      ⟨some ⟨a.expected + (g + xs.length) * s.period, xs.getLastD a.last⟩,
        (s.asm.comps.get comp).buffer ++ onGridFrom s.period a.expected g (List.replicate g a.last ++ xs)⟩) := by
  have hoffset := offsetOf_gap hgap hg
  have placed : place s.chanMap start xs (s.asm.comps.get comp) = .append _ :=
    ((place_gap ha hoffset).trans (if_pos hbridge)).trans (appendAt_of_fits hfit)
  rw [takeUsable_of_append placed, overlapCounted_eq ha, if_neg (by omega), bridgeCounted_gap ha hoffset]
  rfl

/-- A frame that overlaps in part goes behind the buffer less what overlaps (R27). -/
theorem takeUsable_trimmed {k : Nat} (hover : (start : Int) - a.expected < -((s.period : Int) / 2))
    (hk : (k : Int) = (-((start : Int) - a.expected) + (s.period : Int) / 2) / s.period) (hpart : k < xs.length)
    (hfit : (s.asm.comps.get comp).buffer.length + (xs.length - k) ≤ 128) :
    takeUsable comp start xs s = judgeAlignment (((s.bump .overlaps 1).latch .overlap).setComp comp
      ⟨some ⟨a.expected + (0 + (xs.drop k).length) * s.period, (xs.drop k).getLastD a.last⟩,
        (s.asm.comps.get comp).buffer ++
          onGridFrom s.period a.expected 0 (List.replicate 0 a.last ++ xs.drop k)⟩) := by
  have hoffset := offsetOf_overlap hover hk
  have placed : place s.chanMap start xs (s.asm.comps.get comp) = .append _ :=
    ((place_overlap ha hoffset).trans (if_neg (Nat.not_le.mpr hpart))).trans
      (appendAt_of_fits (fill := 0) (x := a.last) (by rw [List.length_drop]; omega))
  rw [takeUsable_of_append placed, overlapCounted_eq ha, if_pos hover,
    bridgeCounted_overlap (s := (s.bump .overlaps 1).latch .overlap) ha hoffset]
  rfl

/-- A frame that overlaps whole is unused (R27). -/
theorem takeUsable_unused {k : Nat} (hover : (start : Int) - a.expected < -((s.period : Int) / 2))
    (hk : (k : Int) = (-((start : Int) - a.expected) + (s.period : Int) / 2) / s.period) (hwhole : xs.length ≤ k) :
    takeUsable comp start xs s = (s.bump .overlaps 1).latch .overlap := by
  rw [takeUsable_of_unused ((place_overlap ha (offsetOf_overlap hover hk)).trans (if_pos hwhole)),
    overlapCounted_eq ha, if_pos hover]

end

/-- Settles O16, by how the frame lies against the expected time. -/
theorem usableFrameIsPlacedOnTheGrid : Obligations.UsableFrameIsPlacedOnTheGrid := by
  intro c rest stream a s hn hi hs hr ha comp p buffer xs d half taken judged put
  have hexec : exec .sampleCopyTaken s = .next (takeUsable comp c.start xs taken) :=
    exec_sampleCopyTaken_usable hn hi hs hr
  have ha' : (taken.asm.comps.get comp).anchor = some a := ha
  have hput : ∀ (u : State) (x : CompState), u.asm.phase = s.asm.phase →
      judgeAlignment (u.setComp comp x) = judged (u.setComp comp x) := fun u x hphase => judgeAlignment_eq_ite hphase
  refine ⟨fun hlow hhigh hfit => ?_, fun g hgap hg hbridge hfit => ?_, fun k hover hk hpart hfit => ?_,
    fun k hover hk hwhole => ?_⟩
  · rw [hexec, takeUsable_continuous ha' hlow hhigh hfit, hput taken _ rfl]
    rfl
  · rw [hexec, takeUsable_bridged ha' hgap hg hbridge hfit, hput (taken.bump .bridges 1) _ rfl]
    rfl
  · rw [hexec, takeUsable_trimmed ha' hover hk hpart hfit, hput ((taken.bump .overlaps 1).latch .overlap) _ rfl]
    rfl
  · rw [hexec, takeUsable_unused ha' hover hk hwhole]

/-! ### Long gaps (R26, R28 to R31) -/

/-- A frame past the bridge limit, or one whose buffer would pass 128 samples, is a long gap. -/
theorem place_of_longGap {m : ChannelMap} {start : Nat} {xs : List Sample} {c : CompState} {a : Anchor}
    (ha : c.anchor = some a) (fill drop : Int)
    (hfill : fill = if (periodOf m.rate : Int) / 2 < (start : Int) - a.expected then
      ((start : Int) - a.expected + (periodOf m.rate : Int) / 2) / periodOf m.rate else 0)
    (hdrop : drop = if (start : Int) - a.expected < -((periodOf m.rate : Int) / 2) then
      (-((start : Int) - a.expected) + (periodOf m.rate : Int) / 2) / periodOf m.rate else 0)
    (h : m.bridge < fill ∨ (drop < xs.length ∧ 128 < c.buffer.length + fill + xs.length - drop)) :
    place m start xs c = .longGap := by
  obtain ⟨hlow, hhigh, e⟩ | ⟨g, hgap, hg, e⟩ | ⟨k, hover, hk, e⟩ := offsetOf_cases (periodOf m.rate) a.expected start
  · rw [if_neg (by omega)] at hfill hdrop
    rw [place_continuous ha e]
    exact appendAt_of_overfull (by rw [List.length_nil]; omega)
  · rw [if_pos hgap, ← hg] at hfill
    rw [if_neg (by omega)] at hdrop
    rw [place_gap ha e]
    split
    · exact appendAt_of_overfull (by rw [List.length_replicate]; omega)
    · rfl
  · rw [if_neg (by omega)] at hfill
    rw [if_pos hover, ← hk] at hdrop
    rw [place_overlap ha e, if_neg (by omega)]
    exact appendAt_of_overfull (by rw [List.length_nil, List.length_drop]; omega)

/-- With one component anchored alone no alignment is judged. -/
theorem judgeAlignment_of_alone {s : State} (h : s.asm.comps = .all .reset) (comp : Comp) (x : CompState) :
    judgeAlignment (s.setComp comp x) = s.setComp comp x := by
  obtain ⟨d, hd⟩ : ∃ d, d ≠ comp := by
    cases comp
    · exact ⟨.n, nofun⟩
    · exact ⟨.z, nofun⟩
    · exact ⟨.z, nofun⟩
  refine judgeAlignment_of_no_heads (heads_of_empty d ?_)
  rw [setComp_asm_comps, PerComp.get_set, if_neg hd, h, PerComp.get_all]
  rfl

/-- Settles O17: the placement is a long gap on either ground, and the frame then anchors its component alone. -/
theorem longGapAnchorsTheFrameThatEndsIt : Obligations.LongGapAnchorsTheFrameThatEndsIt := by
  intro c rest stream a s hn hi hlen hs hr ha comp p buffer xs d half fill drop hlong taken t
  have hexec : exec .sampleCopyTaken s = .next (takeUsable comp c.start xs taken) :=
    exec_sampleCopyTaken_usable hn hi hs hr
  have ha' : (taken.asm.comps.get comp).anchor = some a := ha
  have hgap : place taken.chanMap c.start xs (taken.asm.comps.get comp) = .longGap :=
    place_of_longGap ha' fill drop rfl rfl hlong
  have hanchor := anchorAt_of_fits (p := taken.period) (start := c.start) (xs := xs) (c := .reset) rfl
    (by simp only [xs, List.length_map]; omega)
  have hcounted : longGap (overlapCounted comp c.start taken) = t := by
    rw [overlapCounted_eq ha', longGap_eq]
    rfl
  rw [hexec, takeUsable_of_longGap hgap hanchor, hcounted, judgeAlignment_of_alone rfl]
  rfl

/-- Settles O19: the frame anchors its component, with no count. -/
theorem usableFrameAnchorsItsComponent : Obligations.UsableFrameAnchorsItsComponent := by
  intro c rest stream s hn hi hlen hs hr hempty xs taken
  have hexec : exec .sampleCopyTaken s = .next (takeUsable (s.chanMap.component stream) c.start xs taken) :=
    exec_sampleCopyTaken_usable hn hi hs hr
  have hcomp : taken.asm.comps.get (s.chanMap.component stream) = ⟨none, []⟩ := hempty
  have hanchor := anchorAt_of_fits (p := s.period) (start := c.start) (xs := xs) (c := ⟨none, []⟩) rfl
    (by simp only [xs, List.length_map]; omega)
  have placed : place taken.chanMap c.start xs (taken.asm.comps.get (s.chanMap.component stream)) = .append _ :=
    (congrArg (place taken.chanMap c.start xs) hcomp).trans hanchor
  obtain ⟨hoverlap, hbridge⟩ := counted_unanchored (start := c.start) (congrArg CompState.anchor hcomp)
  rw [hexec, takeUsable_of_append placed, hoverlap, hbridge]
  rfl

end Sys2Proof.Proofs
end

section
/-! PROOFS. Alignment, the issue of a triad, frames that are no use, and the stall timers (R24, R29, R32 to R36). -/

namespace Sys2Proof.Proofs

open Sys2Proof Sys2Proof.Machine Sys2Proof.Safety

/-! ### Alignment (R32, R33) -/

/-- No slot of a buffer on its grid is earlier than its head. -/
theorem head_time_le {p e : Nat} {x : Slot} {xs : List Slot} (h : onGrid p e (x :: xs) = true) :
    ∀ y ∈ xs, x.time ≤ y.time := by
  induction xs generalizing x with
  | nil => exact nofun
  | cons y ys ih =>
    obtain ⟨hx, hrest⟩ := onGrid_cons_iff.mp h
    obtain ⟨hy, -⟩ := onGrid_cons_iff.mp hrest
    have hxy : x.time ≤ y.time := by
      rw [List.length_cons, Nat.mul_add, Nat.mul_one] at hx
      omega
    intro z hz
    obtain rfl | hz := List.mem_cons.mp hz
    · exact hxy
    · exact hxy.trans (ih hrest z hz)

/-- On a grid the samples behind the first that stays stay too. -/
theorem dropWhile_eq_filter {p e : Nat} {xs : List Slot} (half latest : Nat) (h : onGrid p e xs = true) :
    xs.dropWhile (fun x => decide (x.time + half < latest)) =
      xs.filter (fun y => decide (latest ≤ y.time + half)) := by
  induction xs with
  | nil => rfl
  | cons x xs ih =>
    by_cases hx : x.time + half < latest
    · rw [List.dropWhile_cons_of_pos (by simpa using hx), List.filter_cons_of_neg (by simpa using hx),
        ih (onGrid_cons_iff.mp h).2]
    · rw [List.dropWhile_cons_of_neg (by simpa using hx), List.filter_eq_self.mpr]
      intro y hy
      rw [decide_eq_true_eq]
      obtain rfl | hy := List.mem_cons.mp hy
      · omega
      · have := head_time_le h y hy
        omega

theorem trimBuffer_eq_filter {p : Nat} {c : CompState} (half latest : Nat) (h : componentOnGrid p c = true) :
    trimBuffer half latest c = { c with buffer := c.buffer.filter (fun y => decide (latest ≤ y.time + half)) } := by
  unfold trimBuffer
  cases ha : c.anchor with
  | none =>
    rw [componentOnGrid_unanchored_iff ha] at h
    simp only [h, List.dropWhile_nil, List.filter_nil]
  | some a =>
    rw [componentOnGrid_anchored ha] at h
    rw [dropWhile_eq_filter half latest h]

theorem heads_eq_some {c : PerComp CompState} {z n e : Slot} {zs ns es : List Slot} (hz : c.z.buffer = z :: zs)
    (hn : c.n.buffer = n :: ns) (he : c.e.buffer = e :: es) : heads c = some ⟨z, n, e⟩ := by
  simp only [heads, hz, hn, he]

/-- There are no three heads when one of the buffers is empty. -/
theorem heads_eq_none {c : PerComp CompState} (h : c.z.buffer = [] ∨ c.n.buffer = [] ∨ c.e.buffer = []) :
    heads c = none := by
  obtain h | h | h := h
  · exact heads_of_empty .z h
  · exact heads_of_empty .n h
  · exact heads_of_empty .e h

/-- Settles O20, by the heads before and after the trim and the spread of those left. -/
theorem alignmentIsJudgedOnTheTrimmedHeads : Obligations.AlignmentIsJudgedOnTheTrimmedHeads := by
  intro s hgrids hphase c
  obtain ⟨gridZ, gridN, gridE, -, -⟩ := hgrids
  refine ⟨fun h => judgeAlignment_of_no_heads (heads_eq_none h), ?_⟩
  intro z zs n ns e es hz hn he latest trim t
  have hheads : heads s.asm.comps = some ⟨z, n, e⟩ := heads_eq_some hz hn he
  have htrim : trimmed s ⟨z, n, e⟩ = ⟨trim c.z, trim c.n, trim c.e⟩ := by
    have trimmed_eq : trimmed s ⟨z, n, e⟩ = ⟨trimBuffer (s.period / 2) latest c.z, trimBuffer (s.period / 2) latest c.n,
        trimBuffer (s.period / 2) latest c.e⟩ := rfl
    rw [trimmed_eq, trimBuffer_eq_filter _ _ gridZ, trimBuffer_eq_filter _ _ gridN, trimBuffer_eq_filter _ _ gridE]
  refine ⟨fun hempty => ?_, ?_⟩
  · rw [judgeAlignment_of_emptied hphase hheads (by rw [htrim]; exact heads_eq_none hempty), htrim]
  · intro z' zs' n' ns' e' es' hz' hn' he' spread
    have hheads' : heads (trimmed s ⟨z, n, e⟩) = some ⟨z', n', e'⟩ := by
      rw [htrim]
      exact heads_eq_some hz' hn' he'
    refine ⟨fun hspread => ?_, fun hspread => ?_⟩
    · rw [judgeAlignment_of_together hphase hheads hheads' hspread, htrim]
    · rw [judgeAlignment_of_apart hphase hheads hheads' hspread, clearAssembler, latch_asm, ← hphase]
      rfl

/-! ### Triads (R33, R34, R150) -/

/-- A commit holds the next triad back while one is in progress or a notice is before the engine. -/
theorem commitHolds_eq_false_iff (s : State) : commitHolds s = false ↔
    s.tables.commit = .none ∨ (s.inProgress = 0 ∧ s.engine.notices = []) := by
  simp only [commitHolds, State.commitPending, Bool.and_eq_false_iff, Bool.or_eq_false_iff, decide_eq_false_iff_not,
    not_not, Bool.not_eq_false', List.isEmpty_iff]

/-- Settles O21, by whether a commit holds the triad back and whether the index has a next one. -/
theorem triadLeavesFromTheThreeHeads : Obligations.TriadLeavesFromTheThreeHeads := by
  intro index alignTime z n e zs ns es s hphase hrunning hz hn he issued
  have hheads : heads s.asm.comps = some ⟨z, n, e⟩ := heads_eq_some hz hn he
  refine ⟨fun hfree => ?_, fun hpending hbusy => ?_⟩
  · have hnext : nextTriad s = some (index, alignTime, ⟨z, n, e⟩) := by
      simp only [nextTriad, hphase, hheads, hrunning, (commitHolds_eq_false_iff s).mpr hfree, and_self, if_true]
    have hcomps : s.asm.comps.map CompState.dropHead =
        ⟨⟨s.asm.comps.z.anchor, zs⟩, ⟨s.asm.comps.n.anchor, ns⟩, ⟨s.asm.comps.e.anchor, es⟩⟩ := by
      simp only [PerComp.map, CompState.dropHead, hz, hn, he, List.tail_cons]
    have hexec : exec .triadIssue s = .next (issued (indexAfter index)) := by
      refine (execTriadIssue_some hnext).trans ?_
      rw [issueTriad, hcomps]
      rfl
    refine ⟨fun hindex => ?_, fun _ => ⟨_, hexec⟩⟩
    have hafter : indexAfter index = index + 1 := if_pos (by simpa [Config.triadIndexEnd] using hindex)
    rw [hexec, hafter]
  · refine execTriadIssue_none ?_
    have hholds : commitHolds s = true := by
      rw [← Bool.not_eq_false, commitHolds_eq_false_iff, not_or, not_and_or]
      exact ⟨hpending, hbusy⟩
    simp only [nextTriad, hphase, hheads, hholds, Bool.true_eq_false, and_false, if_false]

/-! ### Frames that are no use (R20, R24, R29) -/

section
variable {id : Byte} {rest : List AsmItem} {s : State} (hn : nextTriad s = none)
  (hi : s.asm.inbox = .malformed id :: rest)
include hn hi

theorem exec_malformedNoticeTaken_unmapped (hs : s.streamOf id = none) :
    exec .malformedNoticeTaken s = .next { s with asm := { s.asm with inbox := rest } } := by
  have hs' : ({ s with asm := { s.asm with inbox := rest } } : State).streamOf id = none := hs
  simp only [exec, execMalformedNoticeTaken, hn, hi, hs']

theorem exec_malformedNoticeTaken_mapped {stream : Comp} (hs : s.streamOf id = some stream) :
    exec .malformedNoticeTaken s = .next (longGap { s with asm := { s.asm with inbox := rest } }) := by
  have hs' : ({ s with asm := { s.asm with inbox := rest } } : State).streamOf id = some stream := hs
  simp only [exec, execMalformedNoticeTaken, hn, hi, hs']

end

/-- Settles O18, by the item taken and whether its channel is mapped now. -/
theorem badFramesAreLongGaps : Obligations.BadFramesAreLongGaps := by
  intro c id rest stream s hn t
  refine ⟨fun hi hs hr => ?_, fun hi hs => ?_, fun hi hs => ?_, fun hi hs => ?_⟩
  · rw [exec_sampleCopyTaken hn hi, ← longGap_eq]
    exact congrArg _ (takeCopy_wrongRate hs hr)
  · rw [exec_sampleCopyTaken hn hi]
    exact congrArg _ (takeCopy_unmapped hs)
  · rw [exec_malformedNoticeTaken_mapped hn hi hs, longGap_eq]
  · exact exec_malformedNoticeTaken_unmapped hn hi hs

/-! ### Stall timers (R36) -/

theorem execStallTimerExpiry_of_not_expired {stream : Comp} {s : State}
    (h : timerExpired s.chanMap.stall (s.asm.stall.get stream).timer = false) :
    exec (.stallTimerExpiry stream) s = .next s := by
  simp [exec, execStallTimerExpiry, h]

theorem execStallTimerExpiry_of_expired {stream : Comp} {s : State}
    (h : timerExpired s.chanMap.stall (s.asm.stall.get stream).timer = true) :
    exec (.stallTimerExpiry stream) s = .next (({ s with asm := { s.asm with
      stall := (s.asm.stall.set stream ⟨none, true⟩).map Stall.await } } : State).latch .stall) := by
  simp [exec, execStallTimerExpiry, h]

/-- Settles O22, by whether the timer runs and has reached the stall limit. -/
theorem stallExpiryAwaitsAllChannels : Obligations.StallExpiryAwaitsAllChannels := by
  intro stream s
  refine ⟨fun h => ?_, fun ms h => ⟨fun hms => ?_, fun hms => ?_⟩⟩
  · exact execStallTimerExpiry_of_not_expired (by rw [h, timerExpired_none])
  · exact execStallTimerExpiry_of_not_expired (by rw [h, timerExpired_some, decide_eq_false_iff_not]; omega)
  · refine ⟨_, execStallTimerExpiry_of_expired (by rw [h, timerExpired_some, decide_eq_true_iff]; exact hms),
      fun c => ?_, ?_⟩
    · rw [PerComp.get_map, PerComp.get_set, Stall.await]
      split <;> rfl
    · simp [State.ingressStall, PerComp.map, Stall.await]

end Sys2Proof.Proofs
end

section
/-! PROOFS. Gap notices and restarts at the three picking blocks (R31, R47, R48, R55, R117, R118, R121). -/

namespace Sys2Proof.Proofs

open Sys2Proof Sys2Proof.Machine Sys2Proof.Safety

/-! ### When a notice is taken -/

section
variable {n : Notice} {ns rest : List Notice}

theorem takeNotice_due (k : NoticeKind) (h : ns = n :: rest) (hn : n = ⟨k, 0⟩) : takeNotice k ns = some rest :=
  (takeNotice_eq_some_iff k ns rest).mpr (by rw [h, hn])

/-- A notice with triads before it waits. -/
theorem takeNotice_waiting (k : NoticeKind) (h : ns = n :: rest) (hn : n.ahead ≠ 0) : takeNotice k ns = none := by
  have hdue : dueNotice ns = none := by simp only [dueNotice, h, if_neg hn]
  rw [takeNotice, hdue]
  rfl

theorem dueNotice_due (h : ns = n :: rest) (hn : n.ahead = 0) : dueNotice ns = some n.kind := by
  simp only [dueNotice, h, hn, if_true]

end

/-! ### The Band Filter Bank (R47, R48) -/

section
variable {k : NoticeKind} {rest : List Notice} {s : State}

theorem bankNotice_taken (h : takeNotice k s.bank.notices = some rest) :
    bankNotice k s = clearFilters { s with bank := { s.bank with notices := rest } } := by
  simp only [bankNotice, h]

theorem bankNotice_waiting (h : takeNotice k s.bank.notices = none) : bankNotice k s = s := by
  simp only [bankNotice, h]

/-- A notice that is due holds the next triad back. -/
theorem execFilterTriad_held (h : dueNotice s.bank.notices = some k) : execFilterTriad s = .next s := by
  unfold execFilterTriad
  split
  · rename_i hnone
    rw [h] at hnone
    cases hnone
  · rfl

/-! ### The Detector Array (R55, R73, R74) -/

theorem ringsHeld_eq_false_iff (s : State) : ringsHeld s = false ↔ ∀ r ∈ s.engine.inbox, r.triggers = [] := by
  simp [ringsHeld]

theorem ringsHeld_eq_true_iff (s : State) : ringsHeld s = true ↔ ∃ r ∈ s.engine.inbox, r.triggers ≠ [] := by
  simp [ringsHeld]

theorem arrayNotice_taken (h : takeNotice k s.array.notices = some rest) (hr : ringsHeld s = false) :
    arrayNotice k s = restartDetectors { s with array := { s.array with notices := rest } } := by
  simp only [arrayNotice, h, hr]

theorem arrayNotice_waiting (h : takeNotice k s.array.notices = none ∨ ringsHeld s = true) : arrayNotice k s = s := by
  unfold arrayNotice
  split
  · rename_i htaken hfree
    obtain h | h := h
    · rw [h] at htaken
      cases htaken
    · rw [h] at hfree
      cases hfree
  · rfl

/-- A notice that is due holds the next filtered triad back. -/
theorem execDetectorTriad_held (h : dueNotice s.array.notices = some k) : execDetectorTriad s = .next s := by
  unfold execDetectorTriad
  split
  · rename_i hnone _
    rw [h] at hnone
    cases hnone
  · rfl

/-- A detector runs with its band's enable and its own on (R39). -/
theorem detRuns_iff (s : State) (d : Det) : detRuns s.tables.active.band d = true ↔
    (s.bandCfg d.band).enable = true ∧
      (match d.kind with
        | .v => (s.bandCfg d.band).vEnable
        | .h => (s.bandCfg d.band).hEnable) = true := by
  rw [detRuns, Bool.and_eq_true]
  rfl

/-! ### The Context Engine (R117, R118, R121) -/

theorem engineNotice_taken (cause : Cause) (h : takeNotice k s.engine.notices = some rest) :
    engineNotice k cause s = report (decide (s.tables.commit = .forceDue 0)) (forcedClosure cause { s with
      engine := { s.engine with notices := rest }
      tables := { s.tables with commit := s.tables.commit.noticeTaken } }) := by
  simp only [engineNotice, h]

theorem engineNotice_waiting (cause : Cause) (h : takeNotice k s.engine.notices = none) :
    engineNotice k cause s = s := by
  simp only [engineNotice, h]

end

/-- A forced closure leaves the triads in progress. -/
theorem forcedClosure_inProgress (cause : Cause) (s : State) : (forcedClosure cause s).inProgress = s.inProgress := by
  have same := sameOutsideEngine_forcedClosure s cause
  simp only [State.inProgress, same.bank, same.array, same.inbox]

/-- A report with triads in progress or no commit pending brings nothing (R150; log entry 12). -/
theorem report_quiet {s : State} (own : Bool) (h : s.tables.commit = .none ∨ s.inProgress ≠ 0) : report own s = s := by
  unfold report
  split
  · rfl
  · rename_i hidle
    rw [h.resolve_right hidle]

theorem report_forcedClosure_quiet {s : State} (own : Bool) (cause : Cause)
    (h : s.tables.commit = .none ∨ s.inProgress ≠ 0) :
    report own (forcedClosure cause s) = forcedClosure cause s :=
  report_quiet own (by rwa [forcedClosure_tables, forcedClosure_inProgress])

/-- Settles O40, block by block: a notice is taken when it is due, and waits with triads before it. -/
theorem noticesRestartThePickingBlocks : Obligations.NoticesRestartThePickingBlocks := by
  intro n rest s
  refine ⟨?bank, ?array, ?engine⟩
  case bank =>
    intro hns cleared
    have taken : ∀ k, n = ⟨k, 0⟩ → bankNotice k s = cleared := fun k hk =>
      bankNotice_taken (takeNotice_due k hns hk)
    have waiting : n.ahead ≠ 0 → ∀ k, bankNotice k s = s := fun hn k =>
      bankNotice_waiting (takeNotice_waiting k hns hn)
    exact ⟨fun hk => congrArg _ (taken .gap hk), fun hk => congrArg _ (taken .restart hk),
      fun hn => execFilterTriad_held (dueNotice_due hns hn),
      fun hn => ⟨congrArg _ (waiting hn .gap), congrArg _ (waiting hn .restart)⟩⟩
  case array =>
    intro hns restarted
    have hrestarted : restartDetectors { s with array := { s.array with notices := rest } } = restarted := by
      simp only [restartDetectors, detRuns_iff]
      rfl
    have taken : (∀ r ∈ s.engine.inbox, r.triggers = []) → ∀ k, n = ⟨k, 0⟩ → arrayNotice k s = restarted :=
      fun hfree k hk => (arrayNotice_taken (takeNotice_due k hns hk) ((ringsHeld_eq_false_iff s).mpr hfree)).trans
        hrestarted
    have waiting : (n.ahead ≠ 0 ∨ ∃ r ∈ s.engine.inbox, r.triggers ≠ []) → ∀ k, arrayNotice k s = s :=
      fun h k => arrayNotice_waiting (h.imp (takeNotice_waiting k hns) (ringsHeld_eq_true_iff s).mpr)
    exact ⟨fun hfree => ⟨fun hk => congrArg _ (taken hfree .gap hk), fun hk => congrArg _ (taken hfree .restart hk)⟩,
      fun hn => execDetectorTriad_held (dueNotice_due hns hn),
      fun h => ⟨congrArg _ (waiting h .gap), congrArg _ (waiting h .restart)⟩⟩
  case engine =>
    intro hns t own
    have ht : ({ s with
        engine := { s.engine with notices := rest }
        tables := { s.tables with commit := s.tables.commit.noticeTaken } } : State) = t := by
      simp only [t]
      cases s.tables.commit <;> rfl
    have taken : ∀ k cause, n = ⟨k, 0⟩ → engineNotice k cause s = report own (forcedClosure cause t) :=
      fun k cause hk => ht ▸ engineNotice_taken cause (takeNotice_due k hns hk)
    have quiet : s.tables.commit = .none ∨ s.inProgress ≠ 0 → ∀ cause,
        report own (forcedClosure cause t) = forcedClosure cause t := by
      intro h cause
      refine report_forcedClosure_quiet own cause (h.imp (fun hc => ?_) id)
      rw [← ht]
      exact (noticeTaken_eq_none _).mpr hc
    have waiting : n.ahead ≠ 0 → ∀ k cause, engineNotice k cause s = s := fun hn k cause =>
      engineNotice_waiting cause (takeNotice_waiting k hns hn)
    exact ⟨fun hk => congrArg _ (taken .gap .gap hk), fun hk => congrArg _ (taken .restart .restart hk),
      fun h => ⟨fun hk => congrArg _ ((taken .gap .gap hk).trans (quiet h .gap)),
        fun hk => congrArg _ ((taken .restart .restart hk).trans (quiet h .restart))⟩,
      fun hn => ⟨congrArg _ (waiting hn .gap .gap), congrArg _ (waiting hn .restart .restart)⟩⟩

end Sys2Proof.Proofs
end

section
/-! PROOFS. The arithmetic of a section, and a triad through both sections of every enabled band (R40 to R46). -/

namespace Sys2Proof.Proofs

open Sys2Proof Sys2Proof.Machine Sys2Proof.Safety

/-! ### Rounding and saturation (R41 to R43) -/

/-- A product of two signed 24-bit values has magnitude at most 2^46. -/
theorem abs_mul_le_of_fits {a b : Int} (ha : Fits24 a) (hb : Fits24 b) : |a * b| ≤ 2 ^ 46 := by
  have ha' : |a| ≤ 2 ^ 23 := abs_le.mpr (by omega)
  have hb' : |b| ≤ 2 ^ 23 := abs_le.mpr (by omega)
  calc |a * b| = |a| * |b| := abs_mul a b
    _ ≤ 2 ^ 23 * 2 ^ 23 := mul_le_mul ha' hb' (abs_nonneg b) (by norm_num)
    _ = 2 ^ 46 := by norm_num

/-- Five products of signed 24-bit values add up to at most 5 × 2^46 in magnitude. -/
theorem accumulate_bounds {k : Coeffs} {m : Section} {x : Int}
    (hk : Fits24 k.b0 ∧ Fits24 k.b1 ∧ Fits24 k.b2 ∧ Fits24 k.a1 ∧ Fits24 k.a2)
    (hm : Fits24 m.x1 ∧ Fits24 m.x2 ∧ Fits24 m.y1 ∧ Fits24 m.y2) (hx : Fits24 x) :
    -(5 * 2 ^ 46) ≤ accumulate k m x ∧ accumulate k m x ≤ 5 * 2 ^ 46 := by
  obtain ⟨hb0, hb1, hb2, ha1, ha2⟩ := hk
  obtain ⟨hx1, hx2, hy1, hy2⟩ := hm
  have h0 := abs_le.mp (abs_mul_le_of_fits hb0 hx)
  have h1 := abs_le.mp (abs_mul_le_of_fits hb1 hx1)
  have h2 := abs_le.mp (abs_mul_le_of_fits hb2 hx2)
  have h3 := abs_le.mp (abs_mul_le_of_fits ha1 hy1)
  have h4 := abs_le.mp (abs_mul_le_of_fits ha2 hy2)
  unfold accumulate
  constructor <;> linarith

/-- Rounding is to the nearest, one half toward plus infinity. -/
theorem roundAcc_nearest (acc : Int) :
    roundAcc acc * 2 ^ 22 - 2 ^ 21 ≤ acc ∧ acc < roundAcc acc * 2 ^ 22 + 2 ^ 21 := by
  unfold roundAcc
  omega

theorem roundAcc_mul (x : Int) : roundAcc (4194304 * x) = x := by
  unfold roundAcc
  omega

theorem roundAcc_eq (acc : Int) : roundAcc acc = (acc + 2 ^ 21) / 2 ^ 22 := by
  norm_num [roundAcc]

theorem saturate24_eq (v : Int) :
    saturate24 v = if 8388607 < v then 8388607 else if v < -8388608 then -8388608 else v := by
  unfold saturate24
  omega

/-- A section with b0 of 1.0 and the rest 0 passes its input. -/
theorem runSection_unit (m : Section) {x : Int} (hx : Fits24 x) : (runSection ⟨4194304, 0, 0, 0, 0⟩ m x).y = x := by
  have hacc : accumulate ⟨4194304, 0, 0, 0, 0⟩ m x = 4194304 * x := by simp [accumulate]
  rw [runSection, hacc, roundAcc_mul]
  exact saturate24_of_fits hx

/-- A section of zeros gives 0. -/
theorem runSection_zeros (m : Section) (x : Int) : (runSection ⟨0, 0, 0, 0, 0⟩ m x).y = 0 := by
  have hacc : accumulate ⟨0, 0, 0, 0, 0⟩ m x = 0 := by simp [accumulate]
  rw [runSection, hacc]
  rfl

/-- Two sections that pass their input pass it in cascade. -/
theorem runCascade_unit {cfg : BandCfg} (h1 : cfg.sec1 = ⟨4194304, 0, 0, 0, 0⟩) (h2 : cfg.sec2 = ⟨4194304, 0, 0, 0, 0⟩)
    (m : Cascade) {x : Int} (hx : Fits24 x) : (runCascade cfg m x).y = x := by
  rw [runCascade, h1, h2, runSection_unit m.sec1 hx]
  exact runSection_unit m.sec2 hx

/-- Settles O23: a bound for each product, and rounding as a floor. -/
theorem sectionRoundsTheExactSumToNearest : Obligations.SectionRoundsTheExactSumToNearest := by
  intro k m x hk hm hx
  obtain ⟨hlow, hhigh⟩ := accumulate_bounds hk hm hx
  obtain ⟨hdown, hup⟩ := roundAcc_nearest (accumulate k m x)
  exact ⟨rfl, hlow, hhigh, hdown, hup, by decide, by decide, runSection_unit m hx,
    fun n _ _ _ => runCascade_unit rfl rfl n hx, runSection_zeros m x⟩

/-! ### A band on one triad (R40, R44 to R46) -/

/-- The unsaturated output of a cascade's first section (R42). -/
def firstRaw (cfg : BandCfg) (m : Cascade) (x : Int) : Int := roundAcc (accumulate cfg.sec1 m.sec1 x)

/-- The unsaturated output of a cascade's second section, on the first one's saturated output (R42, R44). -/
def secondRaw (cfg : BandCfg) (m : Cascade) (x : Int) : Int :=
  roundAcc (accumulate cfg.sec2 m.sec2 (saturate24 (firstRaw cfg m x)))

theorem runCascade_y (cfg : BandCfg) (m : Cascade) (x : Int) :
    (runCascade cfg m x).y = saturate24 (secondRaw cfg m x) :=
  rfl

theorem runCascade_mem (cfg : BandCfg) (m : Cascade) (x : Int) : (runCascade cfg m x).mem =
    ⟨⟨x, m.sec1.x1, saturate24 (firstRaw cfg m x), m.sec1.y1⟩,
      ⟨saturate24 (firstRaw cfg m x), m.sec2.x1, saturate24 (secondRaw cfg m x), m.sec2.y1⟩⟩ :=
  rfl

theorem runSection_sat_iff (k : Coeffs) (m : Section) (x : Int) : (runSection k m x).sat = true ↔
    roundAcc (accumulate k m x) ≠ saturate24 (roundAcc (accumulate k m x)) :=
  decide_eq_true_iff.trans ne_comm

/-- Saturation on the way through a cascade is saturation of one of its two outputs (R45). -/
theorem runCascade_sat_iff (cfg : BandCfg) (m : Cascade) (x : Int) : (runCascade cfg m x).sat = true ↔
    firstRaw cfg m x ≠ saturate24 (firstRaw cfg m x) ∨ secondRaw cfg m x ≠ saturate24 (secondRaw cfg m x) := by
  rw [runCascade, Bool.or_eq_true]
  exact or_congr (runSection_sat_iff _ _ _) (runSection_sat_iff _ _ _)

/-- A band that is off has no part and keeps its state. -/
theorem runBand_off {cfg : BandCfg} (h : cfg.enable = false) (m : PerComp Cascade) (x : PerComp Int) :
    runBand cfg m x = ⟨none, m, false⟩ := by
  rw [runBand, if_neg (by simp [h])]

/-- An enabled band runs the cascade of each component. -/
theorem runBand_on {cfg : BandCfg} (h : cfg.enable = true) (m : PerComp Cascade) (x : PerComp Int) :
    (∃ y, (runBand cfg m x).out = some y ∧ ∀ c, y.get c = (runCascade cfg (m.get c) (x.get c)).y) ∧
    (∀ c, (runBand cfg m x).mem.get c = (runCascade cfg (m.get c) (x.get c)).mem) ∧
    ((runBand cfg m x).sat = true ↔ ∃ c, (runCascade cfg (m.get c) (x.get c)).sat = true) := by
  rw [runBand, if_pos h]
  refine ⟨⟨_, rfl, fun c => by cases c <;> rfl⟩, fun c => by cases c <;> rfl, ?_⟩
  rw [Bool.or_eq_true, Bool.or_eq_true]
  constructor
  · rintro ((hz | hn) | he)
    · exact ⟨.z, hz⟩
    · exact ⟨.n, hn⟩
    · exact ⟨.e, he⟩
  · rintro ⟨_ | _ | _, h⟩
    · exact .inl (.inl h)
    · exact .inl (.inr h)
    · exact .inr h

/-- Saturation in a band is saturation in some component of it while it is enabled. -/
theorem runBand_sat_iff (cfg : BandCfg) (m : PerComp Cascade) (x : PerComp Int) : (runBand cfg m x).sat = true ↔
    ∃ c, cfg.enable = true ∧ (runCascade cfg (m.get c) (x.get c)).sat = true := by
  match h : cfg.enable with
  | false => simp [runBand_off h]
  | true =>
    obtain ⟨-, -, hsat⟩ := runBand_on h m x
    simpa using hsat

/-- A triad makes some output of the bank saturate (R45). -/
def bankSaturates (s : State) (t : Triad) : Bool :=
  (runBank s t).b0.sat || (runBank s t).b1.sat || (runBank s t).b2.sat

/-- Saturation in the bank is saturation in some band. -/
theorem bankSaturates_iff (s : State) (t : Triad) :
    bankSaturates s t = true ↔ ∃ b, ((runBank s t).get b).sat = true := by
  rw [bankSaturates, Bool.or_eq_true, Bool.or_eq_true]
  constructor
  · rintro ((h0 | h1) | h2)
    · exact ⟨.b0, h0⟩
    · exact ⟨.b1, h1⟩
    · exact ⟨.b2, h2⟩
  · rintro ⟨_ | _ | _, h⟩
    · exact .inl (.inl h)
    · exact .inl (.inr h)
    · exact .inr h

/-- One band's part of the bank's run. -/
theorem runBank_get (s : State) (t : Triad) (b : Band) : (runBank s t).get b =
    runBand (s.bandCfg b) (s.bank.sections.get b) (t.samples.map (fun x => x.value)) :=
  PerBand.get_of _ b

/-! ### FILTER_TRIAD -/

/-- The oldest triad run through the bank and handed on. -/
theorem execFilterTriad_taken {t : Triad} {rest : List Triad} {s : State} (hinbox : s.bank.inbox = t :: rest)
    (hdue : dueNotice s.bank.notices = none) : execFilterTriad s = .next (({ s with
      bank := ⟨rest, countTriad s.bank.notices, PerBand.of (fun b => ((runBank s t).get b).mem), bankSaturates s t⟩
      array := { s.array with inbox := s.array.inbox ++ [filteredTriad t (runBank s t)] } } : State).latchIf
        (bankSaturates s t) .filterSat) := by
  simp only [execFilterTriad, hinbox, hdue, bankSaturates]

/-- Settles O24: the bank's run band by band. -/
theorem filterTriadRunsBothSections : Obligations.FilterTriadRunsBothSections := by
  intro t rest s hinbox hnotices acc raw sat first second
  have hsat : ∀ v, saturate24 v = sat v := saturate24_eq
  have hfirst : ∀ b c, firstRaw (s.bandCfg b) ((s.bank.sections.get b).get c) (t.samples.get c).value = first b c :=
    fun b c => roundAcc_eq _
  have hsecond : ∀ b c,
      secondRaw (s.bandCfg b) ((s.bank.sections.get b).get c) (t.samples.get c).value = second b c := by
    intro b c
    rw [secondRaw, hfirst, hsat]
    exact roundAcc_eq _
  refine ⟨PerBand.of (fun b => ((runBank s t).get b).mem), bankSaturates s t,
    PerBand.of (fun b => ((runBank s t).get b).out), ?taken, ?saturating, fun b => ?band⟩
  case taken =>
    exact execFilterTriad_taken hinbox ((dueNotice_eq_none_iff _).mpr hnotices)
  case saturating =>
    simp only [bankSaturates_iff, runBank_get, runBand_sat_iff, runCascade_sat_iff, PerComp.get_map, hfirst, hsat,
      hsecond]
  case band =>
    rw [PerBand.get_of, PerBand.get_of, runBank_get]
    match hon : (s.bandCfg b).enable with
    | true =>
      obtain ⟨⟨y, hout, hy⟩, hmem, -⟩ := runBand_on hon (s.bank.sections.get b) (t.samples.map (fun x => x.value))
      simp only [runCascade_y, runCascade_mem, PerComp.get_map, hfirst, hsat, hsecond] at hy hmem
      exact ⟨⟨y, hout, hy⟩, hmem⟩
    | false =>
      rw [runBand_off hon]
      exact ⟨rfl, rfl⟩

end Sys2Proof.Proofs
end

section
/-! PROOFS. What one triad makes of a band's sections and of a detector stays within their widths and states (R43, R46,
R54 to R62). -/

namespace Sys2Proof.Proofs

open Sys2Proof Sys2Proof.Machine Sys2Proof.Safety

/-! ### Sections (R43, R44, R46) -/

/-- Both sections of a cascade hold signed 24-bit outputs. -/
def CascadeFits (m : Cascade) : Prop := SectionFits m.sec1 ∧ SectionFits m.sec2

theorem bandFits_iff (m : PerComp Cascade) : BandFits m ↔ ∀ c, CascadeFits (m.get c) := by
  constructor
  · rintro ⟨z1, z2, n1, n2, e1, e2⟩ (_ | _ | _)
    · exact ⟨z1, z2⟩
    · exact ⟨n1, n2⟩
    · exact ⟨e1, e2⟩
  · intro h
    obtain ⟨z1, z2⟩ := h .z
    obtain ⟨n1, n2⟩ := h .n
    obtain ⟨e1, e2⟩ := h .e
    exact ⟨z1, z2, n1, n2, e1, e2⟩

theorem cascadeFits_cleared (c : Comp) : CascadeFits (PerComp.cleared.get c) := by
  have zeros : SectionFits .reset := by decide
  cases c <;> exact ⟨zeros, zeros⟩

/-- A band's sections fit after a triad, whether it is enabled or off. -/
theorem runBand_fits (cfg : BandCfg) (x : PerComp Int) {m : PerComp Cascade} (h : ∀ c, CascadeFits (m.get c))
    (c : Comp) : CascadeFits ((runBand cfg m x).mem.get c) := by
  match hon : cfg.enable with
  | true =>
    obtain ⟨-, hmem, -⟩ := runBand_on hon m x
    obtain ⟨h1, h2⟩ := h c
    rw [hmem]
    exact (runCascade_fits cfg (m.get c) (x.get c) h1 h2).2
  | false =>
    rw [runBand_off hon]
    exact h c

/-! ### Detectors (R54 to R62) -/

/-- A detector's settings are within the widths of their fields. -/
structure ProfileWidths (p : Profile) : Prop where
  floor : p.floor ≤ max32
  warmUp : p.warmUp ≤ 65535
  maxOn : p.maxOn ≤ 65535

theorem readProfile_widths (img : List Byte) (d : Det) : ProfileWidths (readProfile img d) where
  floor := (Nat.le_of_lt (fieldAt_lt _ _ 3)).trans (by decide)
  warmUp := Nat.le_of_lt_succ (fieldAt_lt _ _ 2)
  maxOn := Nat.le_of_lt_succ (fieldAt_lt _ _ 2)

theorem detectorFits_off : DetectorFits .off := by decide

theorem detectorFits_warm : DetectorFits .warm := by decide

section
variable {p : Profile} {cf : Nat} {d : Detector}

/-- The seed, or an update that may end WARMING; a detector in neither ON nor OFF holds no Lh and no on_count. -/
theorem warmingTurn_fits (hp : ProfileWidths p) (hcf : cf ≤ max32) (h : DetectorFits d) (hs : d.state = .warming) :
    DetectorFits (warmingTurn p cf d) := by
  obtain ⟨hsta, hlta, hlh, hcount, hon, hquiet, -, -⟩ := h
  have hrest : d.lh = 0 ∧ d.onCount = 0 := hquiet (by simp [hs])
  unfold warmingTurn
  split
  · exact ⟨hcf, hcf, hlh, hp.warmUp, hon, fun _ => hrest, by simp [hs], nofun⟩
  · rename_i hseed
    refine ⟨average_le _ _ _ _ hsta hcf, average_le _ _ _ _ hlta hcf, hlh, by dsimp only; omega, hon, fun _ => hrest,
      ?_, fun hpending => absurd hpending hseed⟩
    dsimp only
    split <;> nofun

/-- A pending seed is one of WARMING alone. -/
theorem seedPending_of_fits (h : DetectorFits d) (hs : d.state ≠ .warming) : d.seedPending = false := by
  obtain ⟨-, -, -, -, -, -, -, hseed⟩ := h
  exact Bool.eq_false_iff.mpr fun hpending => hs (hseed hpending).1

theorem idleTurn_fits (hp : ProfileWidths p) (hcf : cf ≤ max32) (h : DetectorFits d) (hs : d.state = .idle) :
    DetectorFits (idleTurn p cf d).1 := by
  have hseed := seedPending_of_fits h (by simp [hs])
  obtain ⟨hsta, hlta, hlh, hcount, hon, hquiet, -, -⟩ := h
  have hsta' := average_le _ p.ks _ _ hsta hcf
  dsimp only [idleTurn]
  split
  · exact ⟨hsta', hlta, max_le hlta hp.floor, hcount, by simp, by simp, nofun, by simp [hseed]⟩
  · exact ⟨hsta', average_le _ _ _ _ hlta hcf, hlh, hcount, hon, hquiet, by simp [hs], by simp [hseed]⟩

theorem onTurn_fits (hp : ProfileWidths p) (hcf : cf ≤ max32) (h : DetectorFits d) (hs : d.state = .on) :
    DetectorFits (onTurn p cf d).1 := by
  have hseed := seedPending_of_fits h (by simp [hs])
  obtain ⟨hsta, hlta, hlh, hcount, hon, -, -, -⟩ := h
  have hsta' := average_le _ p.ks _ _ hsta hcf
  have hmaxOn := hp.maxOn
  dsimp only [onTurn]
  split
  · exact ⟨hsta', hlta, Nat.zero_le _, hcount, Nat.zero_le _, fun _ => ⟨rfl, rfl⟩, nofun, by simp [hseed]⟩
  · split
    · exact ⟨hsta', hlta, hlh, hcount, by dsimp only; omega, by simp [hs], by simp [hs], by simp [hseed]⟩
    · exact ⟨hsta', hsta', Nat.zero_le _, hcount, Nat.zero_le _, fun _ => ⟨rfl, rfl⟩, nofun, by simp [hseed]⟩

theorem detectorTurn_fits (hp : ProfileWidths p) (hcf : cf ≤ max32) (h : DetectorFits d) :
    DetectorFits (detectorTurn p cf d).1 := by
  unfold detectorTurn
  split
  · exact h
  · rename_i hs
    exact warmingTurn_fits hp hcf h hs
  · rename_i hs
    exact idleTurn_fits hp hcf h hs
  · rename_i hs
    exact onTurn_fits hp hcf h hs

/-- Lowering an on_count leaves every state as it is. -/
theorem lowerOnCount_fits (maxOn : Nat) (h : DetectorFits d) : DetectorFits (lowerOnCount maxOn d) := by
  unfold lowerOnCount
  split
  · rename_i hs
    have hseed := seedPending_of_fits h (by simp [hs])
    obtain ⟨hsta, hlta, hlh, hcount, hon, -, -, -⟩ := h
    exact ⟨hsta, hlta, hlh, hcount, (Nat.min_le_left _ _).trans hon, by simp [hs], by simp [hs], by simp [hseed]⟩
  · exact h

end

/-- The CF values of a triad's ring entries are 32-bit values (R52). -/
theorem entryCf_le {s : State} {t : FilteredTriad} {b : Band} {o : BandOut} (h : (bandOuts s t).get b = some o)
    (k : Kind) : entryCf k o.entry ≤ max32 := by
  rw [bandOuts, PerBand.get_of, Option.map_eq_some_iff] at h
  obtain ⟨y, -, rfl⟩ := h
  cases k
  · exact (cf_le _ y).1
  · exact (cf_le _ y).2

/-- A detector fits after a triad, whether it runs or not. -/
theorem detOutcome_fits (s : State) (t : FilteredTriad) (d : Det) (h : DetectorFits (s.array.dets.get d)) :
    DetectorFits (detOutcome s (bandOuts s t) d).1 := by
  unfold detOutcome
  split
  · exact h
  · rename_i o ho
    split
    · exact detectorTurn_fits (readProfile_widths _ d) (entryCf_le ho _) h
    · exact h

end Sys2Proof.Proofs
end

section
/-! PROOFS. The filters and the detectors through every row of the table: most rows leave both and the Band Tables as
they are, and a swap that changes the active Band Table clears both (R43, R46, R54, R57, R148, R152). -/

namespace Sys2Proof.Proofs

open Sys2Proof Sys2Proof.Machine Sys2Proof.Safety

/-! ### The condition -/

/-- What the filters and the detectors hold, the Band Table's two images, and the commit state. -/
structure PickingView where
  sections : PerBand (PerComp Cascade)
  dets : PerDet Detector
  active : List Byte
  shadow : List Byte
  commit : CommitState

def pickingView (s : State) : PickingView :=
  ⟨s.bank.sections, s.array.dets, s.tables.active.band, s.tables.shadow.band, s.tables.commit⟩

/-- The sections fit, those of a band that is off are clear, the detectors fit, and a pending BOUNDARY commit does not
change the Band Table (R43, R46, R54, R148). -/
structure ViewFits (v : PickingView) : Prop where
  filters : ∀ b c, CascadeFits ((v.sections.get b).get c)
  off : ∀ b, (readBand v.active b).enable = false → v.sections.get b = .cleared
  dets : ∀ d, DetectorFits (v.dets.get d)
  boundary : v.commit = .nextBoundary → v.shadow = v.active

def PickingFits (s : State) : Prop := ViewFits (pickingView s)

theorem filtersFit_iff (s : State) : FiltersFit s ↔ ∀ b c, CascadeFits ((s.bank.sections.get b).get c) := by
  simp only [FiltersFit, bandFits_iff]
  constructor
  · rintro ⟨h0, h1, h2⟩ (_ | _ | _)
    · exact h0
    · exact h1
    · exact h2
  · exact fun h => ⟨h .b0, h .b1, h .b2⟩

theorem detectorsFit_iff (s : State) : DetectorsFit s ↔ ∀ d, DetectorFits (s.array.dets.get d) := by
  constructor
  · rintro ⟨v0, h0, v1, h1, v2, h2⟩ (_ | _ | _ | _ | _ | _) <;> assumption
  · exact fun h => ⟨h .v0, h .h0, h .v1, h .h1, h .v2, h .h2⟩

theorem pickingFits_iff (s : State) : (FiltersFit s ∧ OffBandsRest s ∧ DetectorsFit s) ↔ PickingFits s := by
  rw [filtersFit_iff, detectorsFit_iff]
  constructor
  · rintro ⟨filters, ⟨off, boundary⟩, dets⟩
    exact ⟨filters, off, dets, boundary⟩
  · rintro ⟨filters, off, dets, boundary⟩
    exact ⟨filters, ⟨off, boundary⟩, dets⟩

/-- `t` has the sections, the detectors, the Band Table's images and the commit state of `s`. -/
def SamePicking (s t : State) : Prop := pickingView t = pickingView s

theorem SamePicking.refl (s : State) : SamePicking s s := rfl

theorem SamePicking.trans {s t u : State} (h : SamePicking s t) (k : SamePicking t u) : SamePicking s u :=
  Eq.trans k h

theorem SamePicking.fits {s t : State} (k : SamePicking s t) (h : PickingFits s) : PickingFits t := by
  unfold PickingFits
  rwa [k]

theorem PickingFits.endsIn {s : State} {o : Host.Outcome State Fault Refusal} (h : PickingFits s)
    (ho : EndsIn (SamePicking s) o) : EndsIn PickingFits o :=
  ho.mono (fun _ k => k.fits h)

/-- A row that touches nothing of the view. -/
theorem samePicking_of_same {s t : State} (h : pickingView t = pickingView s := by rfl) : SamePicking s t := h

theorem PickingFits.congr {s t : State} (h : PickingFits s) (e : pickingView t = pickingView s := by rfl) :
    PickingFits t :=
  SamePicking.fits e h

theorem samePicking_of_blocks {s t : State} (hbank : t.bank = s.bank) (harray : t.array = s.array)
    (htables : t.tables = s.tables) : SamePicking s t := by
  simp only [SamePicking, pickingView, hbank, harray, htables]

theorem samePicking_bump (s : State) (k : Counter) (n : Nat) : SamePicking s (s.bump k n) := rfl

theorem samePicking_latchIf (s : State) (b : Bool) (f : Flag) : SamePicking s (s.latchIf b f) := by
  cases b <;> rfl

/-! ### Framing -/

theorem samePicking_setFramer (p : Port) (f : Framer) (s : State) : SamePicking s (s.setFramer p f) := by
  cases p <;> rfl

theorem samePicking_tally (p : Port) (a : Scan) (s : State) : SamePicking s (tally p a s) :=
  ((((samePicking_setFramer p _ s).trans (samePicking_bump _ _ _)).trans (samePicking_bump _ _ _)).trans
    (samePicking_latchIf _ _ _)).trans (samePicking_latchIf _ _ _)

theorem samePicking_applyScan (p : Port) (a : Scan) (s : State) : SamePicking s (applyScan p a s) := by
  have routed := sameOutsideRouting_routes p a.frames (tally p a s)
  rw [applyScan_eq]
  exact (samePicking_tally p a s).trans (samePicking_of_blocks routed.bank routed.array routed.tables)

theorem samePicking_judgeHeld (p : Port) (s : State) : SamePicking s (judgeHeld p s) := by
  unfold judgeHeld
  split
  · exact samePicking_applyScan p _ s
  · rfl

theorem samePicking_rxByte (p : Port) (b : Byte) (stop : StopBit) (was : Bool) (s : State) :
    EndsIn (SamePicking s) (execRxByte p b stop was s) := by
  unfold execRxByte
  split
  · exact endsIn_next (((samePicking_judgeHeld p s).trans (samePicking_applyScan p _ _)).trans
      (samePicking_setFramer p _ _))
  · exact endsIn_next rfl

theorem samePicking_byteTimeout (p : Port) (s : State) : EndsIn (SamePicking s) (execByteTimeout p s) := by
  unfold execByteTimeout
  split
  · refine endsIn_next ?_
    unfold abandonHeld
    dsimp only
    split <;> exact samePicking_setFramer p _ s
  · exact endsIn_next rfl

/-! ### The Triad Assembler -/

theorem samePicking_judgeAlignment (s : State) : SamePicking s (judgeAlignment s) := by
  obtain ⟨_, _, _, e⟩ := judgeAlignment_touches s
  rw [e]
  rfl

theorem samePicking_overlapCounted (comp : Comp) (start : Nat) (s : State) :
    SamePicking s (overlapCounted comp start s) := by
  unfold overlapCounted
  split <;> rfl

theorem samePicking_bridgeCounted (comp : Comp) (start : Nat) (s : State) :
    SamePicking s (bridgeCounted comp start s) := by
  unfold bridgeCounted
  split <;> rfl

/-- A long gap clears the assembler and sends notices, which the picking blocks have yet to take. -/
theorem samePicking_longGap (s : State) : SamePicking s (longGap s) := rfl

theorem samePicking_takeUsable (comp : Comp) (start : Nat) (xs : List Sample) (s : State) :
    SamePicking s (takeUsable comp start xs s) := by
  have counted := samePicking_overlapCounted comp start s
  have placed : ∀ u c, SamePicking u (judgeAlignment (u.setComp comp c)) := fun u c => samePicking_judgeAlignment _
  obtain ⟨c, -, e⟩ | e | ⟨c, -, e⟩ | e := takeUsable_cases comp start xs s <;> rw [e]
  · exact (counted.trans (samePicking_bridgeCounted comp start _)).trans (placed _ c)
  · exact counted
  · exact (counted.trans (samePicking_longGap _)).trans (placed _ c)
  · exact counted.trans (samePicking_longGap _)

theorem samePicking_takeCopy (c : SampleCopy) (s : State) : SamePicking s (takeCopy c s) := by
  obtain e | e | ⟨stream, e⟩ := takeCopy_cases c s <;> rw [e]
  · rfl
  · rfl
  · exact samePicking_takeUsable _ _ _ (restartStall stream s)

theorem samePicking_sampleCopyTaken (s : State) : EndsIn (SamePicking s) (execSampleCopyTaken s) := by
  unfold execSampleCopyTaken
  split
  · exact endsIn_next (samePicking_takeCopy _ _)
  · exact endsIn_next rfl

theorem samePicking_malformedNoticeTaken (s : State) : EndsIn (SamePicking s) (execMalformedNoticeTaken s) := by
  unfold execMalformedNoticeTaken
  split
  · dsimp only
    split <;> exact endsIn_next rfl
  · exact endsIn_next rfl

theorem samePicking_stallTimerExpiry (stream : Comp) (s : State) :
    EndsIn (SamePicking s) (execStallTimerExpiry stream s) := by
  unfold execStallTimerExpiry
  split <;> exact endsIn_next rfl

theorem samePicking_triadIssue (s : State) : EndsIn (SamePicking s) (execTriadIssue s) := by
  unfold execTriadIssue
  split <;> exact endsIn_next rfl

/-! ### The transmit lines and the noise reports -/

theorem samePicking_upstreamFrameStart (s : State) : EndsIn (SamePicking s) (execUpstreamFrameStart s) := by
  unfold execUpstreamFrameStart
  split <;> exact endsIn_next rfl

theorem samePicking_upstreamFrameSent (s : State) : EndsIn (SamePicking s) (execUpstreamFrameSent s) := by
  unfold execUpstreamFrameSent
  split <;> exact endsIn_next rfl

theorem samePicking_egressChoice (s : State) : EndsIn (SamePicking s) (execEgressChoice s) := by
  unfold execEgressChoice
  split
  · exact endsIn_next rfl
  · refine endsIn_next ?_
    unfold chooseFrame
    split <;> rfl

theorem samePicking_noiseTimerExpiry (s : State) : EndsIn (SamePicking s) (execNoiseTimerExpiry s) := by
  unfold execNoiseTimerExpiry
  split <;> exact endsIn_next rfl

/-! ### Resets, triads and notices (R46 to R49, R54, R55) -/

/-- Every section clear and every detector restarted or OFF, with no commit pending as BOUNDARY. -/
theorem pickingFits_of_cleared {s : State} (hsections : s.bank.sections = PerBand.of (fun _ => .cleared))
    (hdets : ∀ d, s.array.dets.get d = .warm ∨ s.array.dets.get d = .off) (hc : s.tables.commit ≠ .nextBoundary) :
    PickingFits s where
  filters b c := by
    simp only [pickingView, hsections, PerBand.get_of]
    exact cascadeFits_cleared c
  off b _ := by simp only [pickingView, hsections, PerBand.get_of]
  dets d := by
    obtain e | e := hdets d <;> simp only [pickingView, e]
    · exact detectorFits_warm
    · exact detectorFits_off
  boundary hb := absurd hb hc

theorem pickingFits_resetWith (straps : BitVec 2) (pending : List Instr) :
    PickingFits (State.resetWith straps pending) :=
  pickingFits_of_cleared rfl (fun d => .inr (by cases d <;> rfl)) nofun

theorem pickingFits_egressFrameSent (straps : BitVec 2) {s : State} (h : PickingFits s) :
    EndsIn PickingFits (execEgressFrameSent straps s) := by
  unfold execEgressFrameSent
  split
  · exact endsIn_next h
  · refine endsIn_next ?_
    unfold recordSent
    split
    · exact pickingFits_resetWith _ _
    · split <;> exact h.congr

theorem pickingFits_clearFilters {s : State} (h : PickingFits s) : PickingFits (clearFilters s) where
  filters b c := by
    simp only [pickingView, clearFilters_bank_sections, PerBand.get_of]
    exact cascadeFits_cleared c
  off b _ := by simp only [pickingView, clearFilters_bank_sections, PerBand.get_of]
  dets := h.dets
  boundary := h.boundary

/-- A detector is restarted, or OFF when it does not run. -/
theorem restartDetectors_dets (s : State) (d : Det) :
    (restartDetectors s).array.dets.get d = .warm ∨ (restartDetectors s).array.dets.get d = .off := by
  rw [restartDetectors_array_dets, PerDet.get_of]
  exact ite_eq_or_eq _ _ _

theorem pickingFits_restartDetectors {s : State} (h : PickingFits s) : PickingFits (restartDetectors s) where
  filters := h.filters
  off := h.off
  dets d := by
    show DetectorFits ((restartDetectors s).array.dets.get d)
    obtain e | e := restartDetectors_dets s d <;> rw [e]
    · exact detectorFits_warm
    · exact detectorFits_off
  boundary := h.boundary

theorem pickingFits_bankNotice (k : NoticeKind) {s : State} (h : PickingFits s) : PickingFits (bankNotice k s) := by
  unfold bankNotice
  split
  · exact h
  · exact pickingFits_clearFilters h.congr

theorem pickingFits_arrayNotice (k : NoticeKind) {s : State} (h : PickingFits s) : PickingFits (arrayNotice k s) := by
  unfold arrayNotice
  split
  · exact pickingFits_restartDetectors h.congr
  · exact h

theorem pickingFits_filterTriad {s : State} (h : PickingFits s) : EndsIn PickingFits (execFilterTriad s) := by
  unfold execFilterTriad
  split
  · rename_i t rest hinbox hdue
    refine endsIn_next ((samePicking_latchIf _ _ _).fits
      ⟨fun b c => ?_, fun b hoff => ?_, h.dets, h.boundary⟩)
    · simp only [pickingView, PerBand.get_of, runBank_get]
      exact runBand_fits _ _ (h.filters b) c
    · have hoff : (s.bandCfg b).enable = false := hoff
      simp only [pickingView, PerBand.get_of, runBank_get, runBand_off hoff]
      exact h.off b hoff
  · exact endsIn_next h

theorem pickingFits_detectorTriad {s : State} (h : PickingFits s) : EndsIn PickingFits (execDetectorTriad s) := by
  unfold execDetectorTriad
  split
  · refine endsIn_next ((samePicking_latchIf _ _ _).fits ⟨h.filters, h.off, fun d => ?_, h.boundary⟩)
    simp only [pickingView, bump_array, PerDet.get_of]
    exact detOutcome_fits s _ d (h.dets d)
  · exact endsIn_next h

/-! ### Swaps and reports (R148 to R154) -/

/-- A commit state that is BOUNDARY only when it was before. -/
theorem pickingFits_setCommit (c : CommitState) {s : State} (h : PickingFits s)
    (hc : c = .nextBoundary → s.tables.commit = .nextBoundary) : PickingFits (s.setCommit c) :=
  ⟨h.filters, h.off, h.dets, fun hb => h.boundary (hc hb)⟩

/-- While no commit is pending the shadow images are free to change. -/
theorem pickingFits_setShadow (shadow : PerTable (List Byte)) (written : PerTable Bool) {s : State} (h : PickingFits s)
    (hc : s.tables.commit = .none) :
    PickingFits { s with tables := { s.tables with shadow := shadow, written := written } } where
  filters := h.filters
  off := h.off
  dets := h.dets
  boundary hb := by
    have hb : s.tables.commit = .nextBoundary := hb
    rw [hc] at hb
    cases hb

/-- A swap without band reset that leaves the Band Table as it is. -/
theorem pickingFits_swapPlain {s : State} (h : PickingFits s) (hband : s.tables.shadow.band = s.tables.active.band) :
    PickingFits (swapPlain s) where
  filters := h.filters
  off b hoff := by
    have hoff : (readBand s.tables.shadow.band b).enable = false := hoff
    rw [hband] at hoff
    exact h.off b hoff
  dets d := by
    show DetectorFits ((adjustDetectors (swapTables s)).array.dets.get d)
    rw [adjustDetectors_array_dets, PerDet.get_of]
    exact lowerOnCount_fits _ (h.dets d)
  boundary := nofun

/-- A swap with band reset clears the filters and restarts the detectors under any Band Table. -/
theorem pickingFits_swapWithReset (s : State) : PickingFits (swapWithReset s) := by
  have reset : PickingFits (restartDetectors (clearFilters (swapTables s))) :=
    pickingFits_of_cleared rfl (restartDetectors_dets _) nofun
  unfold swapWithReset bandReset
  dsimp only
  split
  · exact reset.congr
  · exact reset

theorem pickingFits_forcedSwap (s : State) : PickingFits (forcedSwap s) :=
  (pickingFits_swapWithReset _).congr

theorem pickingFits_report (own : Bool) {s : State} (h : PickingFits s) : PickingFits (report own s) := by
  obtain e | ⟨-, ⟨hc, e⟩ | ⟨_, _, -, -, e⟩ | ⟨_, -, -, e⟩⟩ := report_cases own s <;> rw [e]
  · exact h
  · exact pickingFits_swapPlain h (h.boundary hc)
  · exact pickingFits_swapWithReset s
  · exact pickingFits_forcedSwap s

theorem samePicking_of_engine {s t : State} (h : SameOutsideEngine s t) : SamePicking s t :=
  samePicking_of_blocks h.bank h.array h.tables

theorem pickingFits_engineTriad {s : State} (h : PickingFits s) : EndsIn PickingFits (execEngineTriad s) := by
  unfold execEngineTriad
  split
  · have same : ∀ r u, SamePicking u (takeTriggers r (takeContexts r u)) := fun r u =>
      samePicking_of_engine ((sameOutsideEngine_takeContexts r u).trans (sameOutsideEngine_takeTriggers r _))
    exact endsIn_next (pickingFits_report _ ((same _ _).fits h.congr))
  · exact endsIn_next h

theorem pickingFits_engineNotice (k : NoticeKind) (cause : Cause) {s : State} (h : PickingFits s) :
    PickingFits (engineNotice k cause s) := by
  unfold engineNotice
  split
  · exact h
  · have moved : PickingFits (s.setCommit s.tables.commit.noticeTaken) := by
      refine pickingFits_setCommit _ h ?_
      cases s.tables.commit <;> simp [CommitState.noticeTaken]
    exact pickingFits_report _ ((samePicking_of_engine (sameOutsideEngine_forcedClosure _ cause)).fits
      moved.congr)

theorem pickingFits_commitWaitExpiry {s : State} (h : PickingFits s) :
    EndsIn PickingFits (execCommitWaitExpiry s) := by
  unfold execCommitWaitExpiry
  split
  · split
    · exact endsIn_next h
    · split
      · exact endsIn_next (pickingFits_forcedSwap s)
      · exact endsIn_next (pickingFits_setCommit _ h nofun)
  · exact endsIn_next h
  · exact endsIn_next h
  · exact endsIn_next h

/-- With neither the Band Table nor the Channel Map dirty the Band Table stays. -/
theorem band_of_needsBandReset {s : State} (h : needsBandReset s = false) :
    s.tables.shadow.band = s.tables.active.band := by
  rw [needsBandReset, Bool.or_eq_false_iff] at h
  exact ((tableDirty_eq_false_iff s .band).mp h.1).2

/-- A commit executed swaps, or waits; it waits as BOUNDARY only when the Band Table stays. -/
theorem pickingFits_startCommit (limit : Nat) {s : State} (h : PickingFits s) : PickingFits (startCommit limit s) := by
  obtain ⟨hn, e | e⟩ | e | ⟨-, e | ⟨c, hc, e⟩⟩ := startCommit_cases limit s <;> rw [e]
  · exact pickingFits_swapPlain h (band_of_needsBandReset hn)
  · exact ⟨h.filters, h.off, h.dets, fun _ => band_of_needsBandReset hn⟩
  · exact pickingFits_swapWithReset s
  · exact pickingFits_forcedSwap s
  · exact pickingFits_setCommit c h (fun hb => absurd hb hc)

/-! ### The command rows -/

theorem pickingFits_runCommand (code tag : Byte) (ps : List Byte) {run : State → Answer}
    (hrun : ∀ u, PickingFits u → PickingFits (run u).state) {s : State} (h : PickingFits s) :
    EndsIn PickingFits (runCommand code tag ps run s) := by
  obtain e | ⟨u, hu, hcases⟩ := runCommand_cases code tag ps run s
  · exact e ▸ endsIn_next h
  · have taken : PickingFits u := by
      obtain rfl | rfl := hu
      · exact h
      · exact h.congr
    obtain ⟨-, e⟩ | ⟨-, e⟩ | ⟨-, e⟩ := hcases <;> rw [e]
    · exact endsIn_next taken
    · exact endsIn_next taken.congr
    · exact endsIn_next (hrun u taken).congr

/-- A command with operands: MALFORMED changes nothing, so its execution is what counts. -/
theorem pickingFits_command {α : Type} (code tag : Byte) (ps : List Byte) (args : Option α) {run : α → State → Answer}
    (hrun : ∀ a u, PickingFits u → PickingFits (run a u).state) {s : State} (h : PickingFits s) :
    EndsIn PickingFits (runCommand code tag ps (withForm args run) s) := by
  refine pickingFits_runCommand _ _ _ (fun u hu => ?_) h
  cases args with
  | none => exact hu
  | some a => exact hrun a u hu

/-- A command that leaves the filters, the detectors and the Band Tables alone. -/
theorem pickingFits_plainCommand {α : Type} (code tag : Byte) (ps : List Byte) (args : Option α)
    {run : α → State → Answer} (hrun : ∀ a u, SamePicking u (run a u).state) {s : State} (h : PickingFits s) :
    EndsIn PickingFits (runCommand code tag ps (withForm args run) s) :=
  pickingFits_command _ _ _ _ (fun a u hu => (hrun a u).fits hu) h

theorem samePicking_judgeTagged (tag code : Byte) (r : Result) (s : State) :
    SamePicking s (judgeTagged tag code (refuse r) s) := by
  unfold judgeTagged
  split
  · rfl
  · split <;> rfl

theorem samePicking_judgeUndecoded (payload : List Byte) (s : State) : SamePicking s (judgeUndecoded payload s) := by
  unfold judgeUndecoded
  split
  · rfl
  · split
    · rfl
    · exact samePicking_judgeTagged _ _ _ s
    · exact samePicking_judgeTagged _ _ _ s

theorem samePicking_commandUndecoded (payload : List Byte) (s : State) :
    EndsIn (SamePicking s) (execCommandUndecoded payload s) := by
  unfold execCommandUndecoded
  split
  · by_cases hturn : s.cmd.inbox = [] ∨ s.cmd.inbox.head? = some payload
    · rw [takeFrame_ready payload s hturn]
      exact endsIn_next (samePicking_judgeUndecoded payload _)
    · rw [takeFrame_none payload s hturn]
      exact endsIn_next rfl
  · exact endsIn_next rfl

/-- TABLE_WRITE writes only while no commit is pending. -/
theorem pickingFits_writeTable (a : WriteArgs) {s : State} (h : PickingFits s) :
    PickingFits (writeTable a s).state := by
  unfold writeTable
  split
  · exact h
  · rename_i hc
    split
    · exact h
    · exact pickingFits_setShadow _ _ h (not_not.mp hc)

/-- TABLES_COMMIT clamps the shadow images only while no commit is pending. -/
theorem pickingFits_commitTables (limit : Nat) {s : State} (h : PickingFits s) :
    PickingFits (commitTables limit s).state := by
  unfold commitTables
  split
  · exact h
  · rename_i hc
    split
    · exact h
    · split
      · exact h
      · obtain ⟨flags, e⟩ := clampShadow_eq s
        dsimp only [done]
        rw [e]
        exact pickingFits_startCommit limit
          ((pickingFits_setShadow _ s.tables.written h (not_not.mp hc)).congr)

theorem pickingFits_cancelCommit {s : State} (h : PickingFits s) : PickingFits (cancelCommit s).state := by
  unfold cancelCommit
  split
  · exact h
  · exact pickingFits_setCommit _ h nofun

theorem samePicking_guardMap (a : GuardArgs) (s : State) : SamePicking s (guardMap a s).state := by
  unfold guardMap
  split
  · rfl
  · rfl
  · split <;> rfl
  · rfl

/-- A restart is sent to the picking blocks, which have yet to take it. -/
theorem samePicking_restartPicker (s : State) : SamePicking s (restartPicker s).state := by
  unfold restartPicker
  split <;> rfl

/-! ### Every step -/

/-- Every row keeps the condition. -/
theorem exec_keeps_pickingFits (c : Instr) {s : State} (h : PickingFits s) : EndsIn PickingFits (exec c s) := by
  cases c with
  | fullReset straps => exact endsIn_next (pickingFits_resetWith _ _)
  | rxByte p b stop was => exact h.endsIn (samePicking_rxByte p b stop was s)
  | frameReceived p => exact endsIn_next ((samePicking_judgeHeld p s).fits h)
  | byteTimeout p => exact h.endsIn (samePicking_byteTimeout p s)
  | sampleCopyTaken => exact h.endsIn (samePicking_sampleCopyTaken s)
  | malformedNoticeTaken => exact h.endsIn (samePicking_malformedNoticeTaken s)
  | stallTimerExpiry stream => exact h.endsIn (samePicking_stallTimerExpiry stream s)
  | triadIssue => exact h.endsIn (samePicking_triadIssue s)
  | filterTriad => exact pickingFits_filterTriad h
  | detectorTriad => exact pickingFits_detectorTriad h
  | engineTriad => exact pickingFits_engineTriad h
  | gapNoticeFilter => exact endsIn_next (pickingFits_bankNotice _ h)
  | gapNoticeDetector => exact endsIn_next (pickingFits_arrayNotice _ h)
  | gapNoticeEngine => exact endsIn_next (pickingFits_engineNotice _ _ h)
  | restartFilter => exact endsIn_next (pickingFits_bankNotice _ h)
  | restartDetector => exact endsIn_next (pickingFits_arrayNotice _ h)
  | restartEngine => exact endsIn_next (pickingFits_engineNotice _ _ h)
  | commitWaitExpiry => exact pickingFits_commitWaitExpiry h
  | noiseTimerExpiry => exact h.endsIn (samePicking_noiseTimerExpiry s)
  | upstreamFrameStart => exact h.endsIn (samePicking_upstreamFrameStart s)
  | upstreamFrameSent => exact h.endsIn (samePicking_upstreamFrameSent s)
  | egressChoice => exact h.endsIn (samePicking_egressChoice s)
  | egressFrameSent straps => exact pickingFits_egressFrameSent straps h
  | commandUndecoded payload => exact h.endsIn (samePicking_commandUndecoded payload s)
  | tableWrite tag ps => exact pickingFits_command _ _ _ _ (fun a _ => pickingFits_writeTable a) h
  | tablesCommit tag ps => exact pickingFits_command _ _ _ _ (fun limit _ => pickingFits_commitTables limit) h
  | commitCancel tag ps => exact pickingFits_command _ _ _ _ (fun _ _ => pickingFits_cancelCommit) h
  | mapGuard tag ps => exact pickingFits_plainCommand _ _ _ _ samePicking_guardMap h
  | pickerRestart tag ps => exact pickingFits_plainCommand _ _ _ _ (fun _ => samePicking_restartPicker) h
  | echo tag ps => exact pickingFits_plainCommand _ _ _ _ (fun _ _ => samePicking_of_same) h
  | statusRead tag ps => exact pickingFits_plainCommand _ _ _ _ (fun _ _ => samePicking_of_same) h
  | flagsClear tag ps => exact pickingFits_plainCommand _ _ _ _ (fun _ _ => samePicking_of_same) h
  | attentionMask tag ps => exact pickingFits_plainCommand _ _ _ _ (fun _ _ => samePicking_of_same) h
  | tableRead tag ps => exact pickingFits_plainCommand _ _ _ _ (fun _ _ => samePicking_of_same) h
  | egressMode tag ps => exact pickingFits_plainCommand _ _ _ _ (fun _ _ => samePicking_of_same) h
  | arrivalsFlush tag ps => exact pickingFits_plainCommand _ _ _ _ (fun _ _ => samePicking_of_same) h
  | reportInterval tag ps => exact pickingFits_plainCommand _ _ _ _ (fun _ _ => samePicking_of_same) h
  | partReset tag ps => exact pickingFits_plainCommand _ _ _ _ (fun _ _ => samePicking_of_same) h

theorem pickingFits_tick {s : State} (h : PickingFits s) : PickingFits s.tick := by
  have moved : PickingFits (s.setCommit s.tables.commit.tick) := by
    refine pickingFits_setCommit _ h ?_
    cases s.tables.commit <;> simp [CommitState.tick]
  exact moved.congr

/-- Settles O56: a triad keeps sections and detectors within their widths, and only a swap with band reset, which clears
them, changes the active Band Table. -/
theorem everyStepKeepsFiltersAndDetectors : Obligations.EveryStepKeepsFiltersAndDetectors := by
  intro s t h hstep
  rw [pickingFits_iff] at h ⊢
  unfold step at hstep
  split at hstep
  · cases hstep
    exact pickingFits_tick h
  · rename_i c rest _
    obtain ⟨u, e, hu⟩ := exec_keeps_pickingFits c (s := { s with pending := rest }) h.congr
    rw [e] at hstep
    cases hstep
    exact hu

end Sys2Proof.Proofs
end

section
/-! PROOFS. The characteristic functions, the averages, and one detector on one triad (R52, R53, R56 to R62). -/

namespace Sys2Proof.Proofs

open Sys2Proof Sys2Proof.Machine Sys2Proof.Safety

/-! ### Characteristic functions (R52, R53) -/

theorem cfVertical_eq (shift : Nat) (y : PerComp Int) :
    (cfVertical shift y : Int) = min (y.z ^ 2 / 2 ^ shift) (2 ^ 32 - 1) := by
  simp [cfVertical, max32]

theorem cfHorizontal_eq (shift : Nat) (y : PerComp Int) :
    (cfHorizontal shift y : Int) = min ((y.n ^ 2 + y.e ^ 2) / 2 ^ shift) (2 ^ 32 - 1) := by
  simp [cfHorizontal, max32]

/-- The square of a 24-bit value reaches 2^46 at −8,388,608 alone (R52). -/
theorem sq_le_of_fits {v : Int} (h : Fits24 v) : v ^ 2 ≤ 2 ^ 46 ∧ (v ≠ -8388608 → v ^ 2 < 2 ^ 46) := by
  obtain ⟨hlow, hhigh⟩ := h
  refine ⟨?_, fun hne => ?_⟩
  · exact (sq_le_sq' (b := 8388608) hlow (by omega)).trans_eq (by norm_num)
  · exact (sq_lt_sq' (b := 8388608) (by omega) (by omega)).trans_eq (by norm_num)

/-! ### Averages (R57) -/

/-- The floored part of a difference lies between the difference and 0, and is negative with it. -/
theorem ediv_two_pow_bounds (x : Int) (k : Nat) :
    (0 ≤ x → 0 ≤ x / 2 ^ k ∧ x / 2 ^ k ≤ x) ∧ (x < 0 → x ≤ x / 2 ^ k ∧ x / 2 ^ k < 0) := by
  have hpow : (1 : Int) ≤ 2 ^ k := one_le_pow₀ (by norm_num)
  have hpos : (0 : Int) < 2 ^ k := by omega
  refine ⟨fun h => ⟨Int.ediv_nonneg h hpos.le, Int.ediv_le_self _ h⟩, fun h => ⟨?_, Int.ediv_neg_of_neg_of_pos h hpos⟩⟩
  exact (Int.le_ediv_iff_mul_le hpos).mpr (by nlinarith)

/-- An average moves by the floored part of the difference; it never falls below 0. -/
theorem average_eq (avg k cf : Nat) : (average avg k cf : Int) = avg + ((cf : Int) - avg) / 2 ^ k := by
  obtain ⟨hup, hdown⟩ := ediv_two_pow_bounds ((cf : Int) - avg) k
  have hnonneg : 0 ≤ (avg : Int) + ((cf : Int) - avg) / 2 ^ k := by omega
  rw [average, Nat.cast_pow, Nat.cast_ofNat, Int.toNat_of_nonneg hnonneg]

/-- Settles O25: a CF that its shift brings under 2^32 is the exact quotient, and an average moves by a floored part. -/
theorem cfsAndAveragesAreExact : Obligations.CfsAndAveragesAreExact := by
  refine ⟨fun shift y => ⟨cfVertical_eq shift y, cfHorizontal_eq shift y, fun hz hne => ?vertical,
    fun hn he hne => ?horizontal⟩, fun avg k cf => ?average⟩
  case vertical =>
    have hsq := (sq_le_of_fits hz).2 hne
    rw [cfVertical_eq]
    omega
  case horizontal =>
    obtain ⟨hnle, hnlt⟩ := sq_le_of_fits hn
    obtain ⟨hele, helt⟩ := sq_le_of_fits he
    have hsum : y.n ^ 2 + y.e ^ 2 < 2 ^ 47 := by
      by_cases h : y.n = -8388608
      · have := helt fun h' => hne ⟨h, h'⟩
        omega
      · have := hnlt h
        omega
    rw [cfHorizontal_eq]
    omega
  case average =>
    have heq := average_eq avg k cf
    obtain ⟨hup, hdown⟩ := ediv_two_pow_bounds ((cf : Int) - avg) k
    have hrise : 1 ≤ ((cf : Int) - avg) / 2 ^ k ↔ 2 ^ k ≤ (cf : Int) - avg := by
      rw [Int.le_ediv_iff_mul_le (by positivity), one_mul]
    refine ⟨heq, fun h => by omega, fun h => by omega, fun h => ?_⟩
    zify
    omega

/-! ### One detector on one triad (R56 to R62) -/

section
variable {p : Profile} {cf : Nat} {d : Detector}

theorem warmingTurn_seed (h : d.seedPending = true) :
    warmingTurn p cf d = { d with sta := cf, lta := cf, countdown := p.warmUp, seedPending := false } :=
  if_pos h

/-- A warming detector without a pending seed counts down, and is IDLE when nothing is left to count (R56). -/
theorem warmingTurn_count (h : d.seedPending = false) :
    warmingTurn p cf d = { d with
      sta := average d.sta p.ks cf, lta := average d.lta p.kl cf, countdown := d.countdown - 1,
      state := if d.countdown - 1 = 0 then .idle else .warming } :=
  if_neg (by simp [h])

theorem idleTurn_trigger (h : leff p d * p.thrOn ≤ average d.sta p.ks cf * 16) :
    idleTurn p cf d =
      ({ d with state := .on, sta := average d.sta p.ks cf, lh := leff p d, onCount := 1 }, .trigger (leff p d)) :=
  if_pos h

theorem idleTurn_quiet (h : average d.sta p.ks cf * 16 < leff p d * p.thrOn) :
    idleTurn p cf d = ({ d with sta := average d.sta p.ks cf, lta := average d.lta p.kl cf }, .quiet) :=
  if_neg h.not_ge

theorem onTurn_release (h : average d.sta p.ks cf * 16 ≤ d.lh * p.thrOff) :
    onTurn p cf d = ({ d with state := .idle, sta := average d.sta p.ks cf, lh := 0, onCount := 0 }, .quiet) :=
  if_pos h

theorem onTurn_stay (h : d.lh * p.thrOff < average d.sta p.ks cf * 16) (hn : d.onCount < p.maxOn) :
    onTurn p cf d = ({ d with sta := average d.sta p.ks cf, onCount := d.onCount + 1 }, .quiet) :=
  (if_neg h.not_ge).trans (if_pos hn)

theorem onTurn_long (h : d.lh * p.thrOff < average d.sta p.ks cf * 16) (hn : p.maxOn ≤ d.onCount) :
    onTurn p cf d =
      ({ d with state := .idle, sta := average d.sta p.ks cf, lta := average d.sta p.ks cf, lh := 0, onCount := 0 },
        .longRelease) :=
  (if_neg h.not_ge).trans (if_neg hn.not_gt)

theorem detectorTurn_off (h : d.state = .off) : detectorTurn p cf d = (d, .quiet) := by
  simp only [detectorTurn, h]

theorem detectorTurn_warming (h : d.state = .warming) : detectorTurn p cf d = (warmingTurn p cf d, .quiet) := by
  simp only [detectorTurn, h]

theorem detectorTurn_idle (h : d.state = .idle) : detectorTurn p cf d = idleTurn p cf d := by
  simp only [detectorTurn, h]

theorem detectorTurn_on (h : d.state = .on) : detectorTurn p cf d = onTurn p cf d := by
  simp only [detectorTurn, h]

end

/-- Settles O26, state by state. -/
theorem detectorActsByItsState : Obligations.DetectorActsByItsState := by
  intro p cf d sta lta leff
  refine ⟨detectorTurn_off, fun hs hseed => ?seed, fun hs hseed hcount => ?count, fun hs hseed hcount => ?last,
    fun hs h => (detectorTurn_idle hs).trans (idleTurn_trigger h),
    fun hs h => (detectorTurn_idle hs).trans (idleTurn_quiet h),
    fun hs h => (detectorTurn_on hs).trans (onTurn_release h),
    fun hs h hn => (detectorTurn_on hs).trans (onTurn_stay h hn),
    fun hs h hn => (detectorTurn_on hs).trans (onTurn_long h hn)⟩
  case seed => rw [detectorTurn_warming hs, warmingTurn_seed hseed]
  case count =>
    have hleft : d.countdown - 1 ≠ 0 := by omega
    rw [detectorTurn_warming hs, warmingTurn_count hseed, if_neg hleft, ← hs]
  case last => rw [detectorTurn_warming hs, warmingTurn_count hseed, hcount, if_pos rfl]

end Sys2Proof.Proofs
end

section
/-! PROOFS. A filtered triad through the Detector Array: its ring entries, the detectors that run, and the results handed
on (R52, R58, R63 to R65, R71 to R73). -/

namespace Sys2Proof.Proofs

open Sys2Proof Sys2Proof.Machine Sys2Proof.Safety

theorem buffersBounded_rings {s : State} (h : BuffersBounded s) (b : Band) : (s.array.rings.get b).length ≤ 128 := by
  obtain ⟨-, -, -, h0, h1, h2⟩ := h
  cases b
  · exact h0
  · exact h1
  · exact h2

/-- A bounded ring with one more entry is its latest 128 (R72). -/
theorem ringAdd_eq_drop (e : RingEntry) {ring : List RingEntry} (h : ring.length ≤ 128) :
    ringAdd e ring = (ring ++ [e]).drop (ring.length + 1 - 128) := by
  unfold ringAdd Config.ringDepth
  split
  · rw [Nat.sub_eq_zero_of_le (by omega), List.drop_zero]
  · have hfull : ring.length = 128 := by omega
    rw [hfull, List.drop_append_of_le_length (by omega), List.drop_one]

theorem bandOuts_get (s : State) (t : FilteredTriad) (b : Band) :
    (bandOuts s t).get b = (t.bands.get b).map (bandOut (s.bandCfg b) t) :=
  PerBand.get_of _ b

section
variable {s : State} {t : FilteredTriad}

theorem detOutcome_absent {d : Det} (h : t.bands.get d.band = none) :
    detOutcome s (bandOuts s t) d = (s.array.dets.get d, .quiet) := by
  simp only [detOutcome, bandOuts_get, h, Option.map_none]

theorem detOutcome_present {d : Det} {y : PerComp Int} (h : t.bands.get d.band = some y) :
    detOutcome s (bandOuts s t) d =
      if detRuns s.tables.active.band d then
        detectorTurn (s.profile d) (entryCf d.kind (bandOut (s.bandCfg d.band) t y).entry) (s.array.dets.get d)
      else (s.array.dets.get d, .quiet) := by
  simp only [detOutcome, bandOuts_get, h, Option.map_some]

/-- The rings are held while the engine has triggers to search in them (R73; log entry 10). -/
theorem execDetectorTriad_ringsHeld (h : ringsHeld s = true) : execDetectorTriad s = .next s := by
  unfold execDetectorTriad
  split
  · rename_i hfree
    rw [h] at hfree
    cases hfree
  · rfl

end

/-- The oldest filtered triad taken: its entries, the detectors after it, and its results (R65). -/
theorem execDetectorTriad_taken {t : FilteredTriad} {rest : List FilteredTriad} {s : State}
    (hinbox : s.array.inbox = t :: rest) (hdue : dueNotice s.array.notices = none) (hfree : ringsHeld s = false) :
    execDetectorTriad s =
      (let outs := bandOuts s t
      let res := resultsOf t outs (PerDet.of (detOutcome s outs))
      .next (((({ s with
        array :=
          { inbox := rest
            notices := countTriad s.array.notices
            dets := PerDet.of (fun d => (detOutcome s outs d).1)
            rings := PerBand.of (fun b => ringWrite (outs.get b) (s.array.rings.get b)) }
        engine := { s.engine with inbox := s.engine.inbox ++ [res] } } : State).bump .triggers
          res.triggers.length).latchIf (!res.longs.isEmpty) .longTrigger))) := by
  simp only [execDetectorTriad, hinbox, hdue, hfree, PerDet.get_of]

/-- Settles O27: the array's ring entries, detectors and results are those of each band and each detector by itself. -/
theorem detectorTriadHandsOnItsResults : Obligations.DetectorTriadHandsOnItsResults := by
  intro t rest s hbounded hinbox hnotices
  refine ⟨fun hheld => execDetectorTriad_ringsHeld ((ringsHeld_eq_true_iff s).mpr hheld), fun hfree => ?_⟩
  intro entry after triggers longs
  have houtcome : ∀ d, detOutcome s (bandOuts s t) d = after d := by
    intro d
    match hband : t.bands.get d.band with
    | none => simp only [detOutcome_absent hband, after, hband]
    | some y =>
      simp only [detOutcome_present hband, detRuns_iff, after, hband]
      cases d <;> rfl
  have hbands : bandOuts s t = PerBand.of (fun b => (t.bands.get b).map (fun y => ⟨y, entry b y⟩)) := rfl
  have hrings : ∀ b, ringWrite ((bandOuts s t).get b) (s.array.rings.get b) =
      match t.bands.get b with
      | none => s.array.rings.get b
      | some y => (s.array.rings.get b ++ [entry b y]).drop ((s.array.rings.get b).length + 1 - 128) := by
    intro b
    rw [bandOuts_get]
    match t.bands.get b with
    | none => rfl
    | some y => exact ringAdd_eq_drop _ (buffersBounded_rings hbounded b)
  have htriggers : triggersOf t.index (PerDet.of after) = triggers := by
    refine List.filterMap_congr fun d _ => ?_
    rw [PerDet.get_of]
    cases (after d).2 <;> rfl
  have hlongs : longsOf (PerDet.of after) = longs := by
    refine List.filterMap_congr fun d _ => ?_
    rw [PerDet.get_of]
    cases (after d).2 <;> rfl
  have hexec := execDetectorTriad_taken hinbox ((dueNotice_eq_none_iff _).mpr hnotices)
    ((ringsHeld_eq_false_iff s).mpr hfree)
  simp only [resultsOf, funext houtcome, htriggers, hlongs, funext hrings] at hexec
  exact hexec

end Sys2Proof.Proofs
end

section
/-! PROOFS. The swap, plain, with band reset and forced (R68, R69, R149, R151, R152, R154). -/

namespace Sys2Proof.Proofs

open Sys2Proof Sys2Proof.Machine Sys2Proof.Safety

/-- A table is dirty when its active image is invalid or differs from the shadow image (R148). -/
theorem tableDirty_eq_true_iff (s : State) (t : Table) :
    tableDirty s t = true ↔ s.tables.valid.get t = false ∨ s.tables.shadow.get t ≠ s.tables.active.get t := by
  simp [tableDirty]

theorem swapWithReset_of_mapKept {s : State} (h : tableDirty s .chan = false) :
    swapWithReset s = restartDetectors (clearFilters (swapTables s)) := by
  simp only [swapWithReset, bandReset, h, Bool.false_eq_true, if_false]

theorem swapWithReset_of_mapChanged {s : State} (h : tableDirty s .chan = true) :
    swapWithReset s = resetForMap (restartDetectors (clearFilters (swapTables s))) := by
  simp only [swapWithReset, bandReset, h, if_true]

/-- A restart leaves each detector by its own enables and empties the rings (R55, R74). -/
theorem restartDetectors_of_dets {s : State} {dets : PerDet Detector}
    (h : ∀ d, dets.get d = if detRuns s.tables.active.band d = true then .warm else .off) :
    restartDetectors s = { s with array := { s.array with dets := dets, rings := ⟨[], [], []⟩ } } := by
  have hdets : PerDet.of (fun d => if detRuns s.tables.active.band d = true then Detector.warm else .off) = dets :=
    PerDet.ext_get fun d => by rw [PerDet.get_of, h]
  rw [restartDetectors, hdets]

/-- Settles O46: a band reset starts afresh what the detectors' enables and the Channel Map's dirty mark say. -/
theorem swapsActivateTheShadowTables : Obligations.SwapsActivateTheShadowTables := by
  intro s swapped runs
  refine ⟨?plain, ?reset, ?forced⟩
  case plain => rfl
  case reset =>
    intro dets hdets cleared
    have hrestart : restartDetectors (clearFilters (swapTables s)) = cleared := by
      refine restartDetectors_of_dets (s := clearFilters (swapTables s)) fun d => ?_
      rw [hdets]
      simp only [detRuns_iff]
      rfl
    refine ⟨fun hvalid hsame => ?kept, fun hchanged => ?changed⟩
    case kept =>
      rw [swapWithReset_of_mapKept ((tableDirty_eq_false_iff s .chan).mpr ⟨hvalid, hsame⟩), hrestart]
    case changed =>
      rw [swapWithReset_of_mapChanged ((tableDirty_eq_true_iff s .chan).mpr hchanged), hrestart]
      rfl
  case forced => rfl

end Sys2Proof.Proofs
end

section
/-! PROOFS. The back-search for an onset, and the merge check (R77 to R84). -/

namespace Sys2Proof.Proofs

open Sys2Proof Sys2Proof.Machine Sys2Proof.Safety

/-! ### The back-search (R77 to R80) -/

/-- What a search back from the index `cur` over at most `left` entries may find: an onset with its TRUNCATED mark. -/
structure FoundBack (ring : List RingEntry) (quiet : RingEntry → Bool) (left cur : Nat) (r : Nat × Bool) : Prop where
  onset_le : r.1 ≤ cur
  within : cur - r.1 ≤ left
  loud : ∀ j, r.1 ≤ j → j < cur → ∃ e, ringFind ring j = some e ∧ quiet e = false
  stopped : r.2 = false → 1 ≤ r.1 ∧ cur - r.1 + 1 ≤ left ∧ ∃ e, ringFind ring (r.1 - 1) = some e ∧ quiet e = true
  ended : r.2 = true → cur - r.1 = left ∨ r.1 = 0 ∨ ringFind ring (r.1 - 1) = none

section
variable {ring : List RingEntry} {quiet : RingEntry → Bool} {left cur : Nat}

/-- A search that ends where it stands, at the last entry of the depth or of the ring (R80). -/
theorem FoundBack.ended_here (h : left = 0 ∨ cur = 0 ∨ ringFind ring (cur - 1) = none) :
    FoundBack ring quiet left cur (cur, true) where
  onset_le := le_rfl
  within := by simp
  loud := fun j hj hcur => absurd hj (by omega)
  stopped := nofun
  ended := fun _ => h.imp_left (fun hleft => by rw [hleft, Nat.sub_self])

/-- A search that stops behind a quiet entry (R78). -/
theorem FoundBack.stopped_here {e : RingEntry} (hcur : cur ≠ 0) (he : ringFind ring (cur - 1) = some e)
    (hquiet : quiet e = true) : FoundBack ring quiet (left + 1) cur (cur, false) where
  onset_le := le_rfl
  within := by simp
  loud := fun j hj hlt => absurd hj (by omega)
  stopped := fun _ => ⟨Nat.one_le_iff_ne_zero.mpr hcur, by simp, e, he, hquiet⟩
  ended := nofun

/-- A search that passes an entry that is not quiet (R78, R79). -/
theorem FoundBack.further {e : RingEntry} {r : Nat × Bool} (hcur : cur ≠ 0) (he : ringFind ring (cur - 1) = some e)
    (hloud : quiet e = false) (h : FoundBack ring quiet left (cur - 1) r) : FoundBack ring quiet (left + 1) cur r where
  onset_le := h.onset_le.trans (Nat.sub_le _ _)
  within := by have := h.within; omega
  loud := by
    intro j hj hlt
    obtain hlast | hbefore : j = cur - 1 ∨ j < cur - 1 := by omega
    · exact ⟨e, hlast ▸ he, hloud⟩
    · exact h.loud j hj hbefore
  stopped := by
    intro hr
    obtain ⟨hpos, hdepth, hstop⟩ := h.stopped hr
    exact ⟨hpos, by omega, hstop⟩
  ended := by
    intro hr
    refine (h.ended hr).imp_left fun hdepth => ?_
    have := h.onset_le
    omega

end

theorem backSearch_found (ring : List RingEntry) (k : Kind) (lh factor left cur : Nat) :
    FoundBack ring (quietEntry k lh factor) left cur (backSearch ring k lh factor left cur) := by
  induction left generalizing cur with
  | zero => exact .ended_here (.inl rfl)
  | succ left ih =>
    simp only [backSearch]
    split
    · rename_i hcur
      exact .ended_here (.inr (.inl hcur))
    · rename_i hcur
      split
      · rename_i hnone
        exact .ended_here (.inr (.inr hnone))
      · rename_i e he
        split
        · rename_i hquiet
          exact .stopped_here hcur he hquiet
        · rename_i hloud
          exact .further hcur he (Bool.eq_false_iff.mpr hloud) (ih (cur - 1))

/-- Settles O28: the search of a trigger from its own index under its detector's depth. -/
theorem backSearchStopsAtTheLastQuietEntry : Obligations.BackSearchStopsAtTheLastQuietEntry := by
  intro s t ring p quiet f
  have hquiet : ∀ e, quietEntry t.det.kind t.lh p.onsetFactor e = true ↔ quiet e := by
    intro e
    simp only [quietEntry, decide_eq_true_eq, quiet]
    cases t.det.kind <;> rfl
  have found : FoundBack ring (quietEntry t.det.kind t.lh p.onsetFactor) p.depth t.index (f.onset, f.truncated) :=
    backSearch_found _ _ _ _ _ _
  refine ⟨found.onset_le, rfl, found.within, fun j hj hlt => ?loud, fun hr => ?stopped, found.ended⟩
  case loud =>
    obtain ⟨e, he, hloud⟩ := found.loud j hj hlt
    exact ⟨e, he, fun hq => Bool.false_ne_true (hloud ▸ (hquiet e).mpr hq)⟩
  case stopped =>
    obtain ⟨hpos, hdepth, e, he, hq⟩ := found.stopped hr
    exact ⟨hpos, hdepth, e, he, (hquiet e).mp hq⟩

/-! ### The merge check (R83, R84) -/

/-- `a` is preferred to `b` or is `b`: nearer, or as near and earlier, or of the same onset in no higher slot (R84). -/
def AsGood (a b : Match) : Prop :=
  a.dist < b.dist ∨ (a.dist = b.dist ∧ (a.onset < b.onset ∨ (a.onset = b.onset ∧ a.slot ≤ b.slot)))

theorem AsGood.refl (a : Match) : AsGood a a := .inr ⟨rfl, .inr ⟨rfl, le_rfl⟩⟩

theorem AsGood.trans {a b c : Match} (h : AsGood a b) (k : AsGood b c) : AsGood a c := by
  unfold AsGood at *
  omega

/-- A best one among the matches that meet `C`, or none when no match does. -/
def BestOf (C : Match → Prop) : Option Match → Prop
  | none => ∀ a, ¬ C a
  | some a => C a ∧ ∀ b, C b → AsGood a b

/-- The choice between the best so far and the match of a higher slot (R84). -/
theorem choose_bestOf {C : Match → Prop} {best next : Option Match} (h : BestOf C best)
    (hslot : ∀ a b, C a → next = some b → a.slot ≤ b.slot) :
    BestOf (fun a => C a ∨ next = some a) (Match.choose best next) := by
  match best, next with
  | none, none => exact fun a ha => ha.elim (h a) nofun
  | none, some b =>
    refine ⟨.inr rfl, ?_⟩
    rintro c (hc | hc)
    · exact absurd hc (h c)
    · cases hc
      exact .refl b
  | some a, none => exact ⟨.inl h.1, fun b hb => h.2 b (hb.resolve_right nofun)⟩
  | some a, some b =>
    obtain ⟨ha, hbest⟩ := h
    have hab := hslot a b ha rfl
    simp only [Match.choose]
    split
    · rename_i hbeats
      have hba : AsGood b a := by
        simp only [Match.beats, decide_eq_true_eq] at hbeats
        exact hbeats.imp_right fun ⟨hd, ho⟩ => ⟨hd, .inl ho⟩
      refine ⟨.inr rfl, ?_⟩
      rintro c (hc | hc)
      · exact hba.trans (hbest c hc)
      · cases hc
        exact .refl b
    · rename_i hstays
      simp only [Match.beats, decide_eq_true_eq] at hstays
      refine ⟨.inl ha, ?_⟩
      rintro c (hc | hc)
      · exact hbest c hc
      · cases hc
        unfold AsGood
        omega

/-- The choice slot by slot, from the lowest up, ends with a best match. -/
theorem foldl_choose_bestOf {m : Fin 8 → Option Match} (hm : ∀ i a, m i = some a → a.slot = i) (xs : List (Fin 8))
    (hxs : xs.Pairwise (· < ·)) :
    BestOf (fun a => ∃ i ∈ xs, m i = some a) (xs.foldl (fun best i => Match.choose best (m i)) none) := by
  induction xs using List.reverseRecOn with
  | nil => simp [BestOf]
  | append_singleton xs i ih =>
    obtain ⟨hsorted, -, hlast⟩ := List.pairwise_append.mp hxs
    have hchosen := choose_bestOf (next := m i) (ih hsorted) (by
      rintro a b ⟨j, hj, ha⟩ hb
      rw [hm j a ha, hm i b hb]
      exact (hlast j hj i (List.mem_singleton_self i)).le)
    rw [List.foldl_append, List.foldl_cons, List.foldl_nil]
    simpa only [List.mem_append, List.mem_singleton, or_and_right, exists_or, exists_eq_left] using hchosen

theorem mem_slots (i : Fin 8) : i ∈ slots := by
  revert i
  decide

theorem slots_sorted : slots.Pairwise (· < ·) := by decide

theorem comparedOnset_eq_some_iff (k : Kind) (c : Context) (o : Nat) : comparedOnset k c = some o ↔
    (k = .v ∧ c.kind = .v ∧ o = c.onset) ∨ (k = .h ∧ c.sPart = none ∧ c.kind = .h ∧ o = c.onset) ∨
      (k = .h ∧ ∃ sp, c.sPart = some sp ∧ o = sp.onset) := by
  cases k with
  | v => simp [comparedOnset, eq_comm]
  | h => cases hs : c.sPart <;> simp [comparedOnset, hs, eq_comm]

theorem natDist_le_iff (a b n : Nat) : natDist a b ≤ n ↔ a ≤ b + n ∧ b ≤ a + n := by
  unfold natDist
  omega

theorem natDist_eq_natAbs (a b : Nat) : natDist a b = ((a : Int) - b).natAbs := by
  unfold natDist
  omega

theorem matchOf_eq_some_iff (merge : Nat) (k : Kind) (onset : Nat) (i : Fin 8) (c : Option Context) (a : Match) :
    matchOf merge k onset i c = some a ↔
      ∃ x o, c = some x ∧ comparedOnset k x = some o ∧ natDist o onset ≤ merge ∧ a = ⟨natDist o onset, o, i⟩ := by
  cases c with
  | none => simp [matchOf]
  | some x =>
    cases ho : comparedOnset k x with
    | none => simp [matchOf, ho]
    | some o => simp [matchOf, ho, eq_comm]

/-- `a` is the match of its slot's context for a trigger of a kind and onset (R83). -/
def Matches (s : State) (k : Kind) (onset : Nat) (a : Match) : Prop :=
  ∃ x, s.ctx a.slot = some x ∧ comparedOnset k x = some a.onset ∧ natDist a.onset onset ≤ s.rules.merge ∧
    a.dist = natDist a.onset onset

/-- The slot a trigger merges into is that of a best match of all eight (R84). -/
theorem mergeTarget_eq_bestOf (s : State) (k : Kind) (onset : Nat) :
    ∃ best, mergeTarget s k onset = best.map Match.slot ∧ BestOf (Matches s k onset) best := by
  have hslot : ∀ i a, matchOf s.rules.merge k onset i (s.ctx i) = some a → a.slot = i := by
    intro i a ha
    obtain ⟨x, o, -, -, -, rfl⟩ := (matchOf_eq_some_iff _ _ _ _ _ _).mp ha
    rfl
  have hmatch : ∀ a : Match, (∃ i ∈ slots, matchOf s.rules.merge k onset i (s.ctx i) = some a) ↔
      Matches s k onset a := by
    intro a
    simp only [matchOf_eq_some_iff]
    constructor
    · rintro ⟨i, -, x, o, hx, ho, hnear, rfl⟩
      exact ⟨x, hx, ho, hnear, rfl⟩
    · rintro ⟨x, hx, ho, hnear, hd⟩
      exact ⟨a.slot, mem_slots _, x, a.onset, hx, ho, hnear, by rw [← hd]⟩
  refine ⟨_, rfl, ?_⟩
  simpa only [hmatch] using foldl_choose_bestOf hslot slots slots_sorted

/-- Settles O29: the best match by distance, onset and slot, or none. -/
theorem mergeGoesToTheNearestMatchingOnset : Obligations.MergeGoesToTheNearestMatchingOnset := by
  intro s k onset compared within
  obtain ⟨best, htarget, hbest⟩ := mergeTarget_eq_bestOf s k onset
  have hcompared : ∀ i o, compared i o ↔ ∃ x, s.ctx i = some x ∧ comparedOnset k x = some o := by
    simp only [comparedOnset_eq_some_iff, compared, implies_true]
  have hmatch : ∀ i o, compared i o → within o → Matches s k onset ⟨natDist o onset, o, i⟩ := by
    intro i o hc hw
    obtain ⟨x, hx, ho⟩ := (hcompared i o).mp hc
    exact ⟨x, hx, ho, (natDist_le_iff _ _ _).mpr hw, rfl⟩
  rw [htarget]
  match best with
  | none =>
    refine ⟨⟨fun _ i o hc hw => ?_, fun _ => rfl⟩, nofun⟩
    exact hbest ⟨natDist o onset, o, i⟩ (hmatch i o hc hw)
  | some a =>
    obtain ⟨⟨x, hx, ho, hnear, hdist⟩, hfirst⟩ := hbest
    have hca : compared a.slot a.onset := (hcompared _ _).mpr ⟨x, hx, ho⟩
    have hwa : within a.onset := (natDist_le_iff _ _ _).mp hnear
    refine ⟨⟨nofun, fun hnone => absurd hwa (hnone _ _ hca)⟩, fun i hi => ?_⟩
    obtain rfl : a.slot = i := Option.some.inj hi
    refine ⟨a.onset, hca, hwa, fun j q hc hw => ?_⟩
    have hgood := hfirst ⟨natDist q onset, q, j⟩ (hmatch j q hc hw)
    rwa [AsGood, hdist, natDist_eq_natAbs, natDist_eq_natAbs] at hgood

end Sys2Proof.Proofs
end

section
/-! PROOFS. The measurement window: its sums, its marks, the first motion, and its class (R87 to R92). -/

namespace Sys2Proof.Proofs

open Sys2Proof Sys2Proof.Machine Sys2Proof.Safety

/-! ### The sums and marks of a window (R88, R89, R91) -/

@[simp] theorem PerComp.get_or (a b : PerComp Bool) (k : Comp) : (a.or b).get k = (a.get k || b.get k) := by
  cases k <;> rfl

theorem PerComp.any_iff (a : PerComp Bool) : a.any = true ↔ ∃ k, a.get k = true := by
  simp only [PerComp.any, Bool.or_eq_true]
  constructor
  · rintro ((h | h) | h)
    · exact ⟨.z, h⟩
    · exact ⟨.n, h⟩
    · exact ⟨.e, h⟩
  · rintro ⟨k, h⟩
    cases k with
    | z => exact .inl (.inl h)
    | n => exact .inl (.inr h)
    | e => exact .inr h

/-- The sum of one kind's characteristic functions that a window holds (R87). -/
def energy : Kind → Window → Nat
  | .v, w => w.ez
  | .h, w => w.eh

/-- What a first-motion test leaves of a window but for its polarity. -/
theorem motionTest_keeps (r : Rules) (lh : Option Nat) (e : RingEntry) (w : Window) :
    (motionTest r lh e w).ez = w.ez ∧ (motionTest r lh e w).eh = w.eh ∧ (motionTest r lh e w).counted = w.counted := by
  simp only [motionTest]
  split
  · split
    · split
      · exact ⟨rfl, rfl, rfl⟩
      · split <;> exact ⟨rfl, rfl, rfl⟩
    · exact ⟨rfl, rfl, rfl⟩
  · exact ⟨rfl, rfl, rfl⟩

section
variable (r : Rules)

theorem sumEntry_energy (k : Kind) (c : Context) (e : RingEntry) :
    energy k (sumEntry r c e).window = min (energy k c.window + entryCf k e) max48 := by
  obtain ⟨hez, heh, -⟩ := motionTest_keeps r c.lh e c.window
  cases k with
  | v => exact congrArg (fun n => min (n + e.cfV) max48) hez
  | h => exact congrArg (fun n => min (n + e.cfH) max48) heh

theorem sumEntry_counted (c : Context) (e : RingEntry) :
    (sumEntry r c e).window.counted = c.window.counted + 1 :=
  congrArg (· + 1) (motionTest_keeps r c.lh e c.window).2.2

/-- A sum that stays below the saturation is exact (R88). -/
theorem foldl_sumEntry_energy (k : Kind) (es : List RingEntry) (c : Context)
    (h : energy k c.window + (es.map (entryCf k)).sum ≤ max48) :
    energy k (es.foldl (sumEntry r) c).window = energy k c.window + (es.map (entryCf k)).sum := by
  induction es generalizing c with
  | nil => rfl
  | cons e es ih =>
    rw [List.map_cons, List.sum_cons] at h ⊢
    have hstep : energy k (sumEntry r c e).window = energy k c.window + entryCf k e := by
      rw [sumEntry_energy, Nat.min_eq_left (by omega)]
    rw [List.foldl_cons, ih _ (by omega), hstep, Nat.add_assoc]

theorem foldl_sumEntry_counted (es : List RingEntry) (c : Context) :
    (es.foldl (sumEntry r) c).window.counted = c.window.counted + es.length := by
  induction es generalizing c with
  | nil => rfl
  | cons e es ih => rw [List.foldl_cons, ih, sumEntry_counted, List.length_cons, Nat.add_right_comm, Nat.add_assoc]

theorem foldl_sumEntry_clip (es : List RingEntry) (c : Context) (k : Comp) :
    (es.foldl (sumEntry r) c).clip.get k = true ↔ c.clip.get k = true ∨ ∃ e ∈ es, e.clip.get k = true := by
  induction es generalizing c with
  | nil => simp
  | cons e es ih => simp [ih, sumEntry, or_assoc]

theorem foldl_sumEntry_bridged (es : List RingEntry) (c : Context) :
    (es.foldl (sumEntry r) c).bridged = true ↔ c.bridged = true ∨ ∃ e ∈ es, ∃ k, e.bridged.get k = true := by
  induction es generalizing c with
  | nil => simp
  | cons e es ih => simp [ih, sumEntry, or_assoc, PerComp.any_iff]

/-! ### The first motion (R90) -/

/-- The first motion that an entry gives: its direction, with the entry's Z clip mark. -/
def motionOf (e : RingEntry) : Polarity × Bool := (if 0 < e.yZ then .up else .down, e.clip.z)

/-- A window's polarity with its clipped mark. -/
def firstMotion (w : Window) : Polarity × Bool := (w.polarity, w.polarityClipped)

theorem sumEntry_firstMotion (c : Context) (e : RingEntry) :
    firstMotion (sumEntry r c e).window = firstMotion (motionTest r c.lh e c.window) := rfl

theorem sumEntry_firstMotion_of_settled {c : Context} (e : RingEntry) (h : c.window.polarity ≠ .pending) :
    firstMotion (sumEntry r c e).window = firstMotion c.window := by
  rw [sumEntry_firstMotion]
  unfold motionTest
  split
  · rename_i hpending _
    exact absurd hpending h
  · rfl

theorem sumEntry_firstMotion_of_pending {c : Context} {e : RingEntry} {lh : Nat} (h : c.window.polarity = .pending)
    (hlh : c.lh = some lh) (hz : qualifies r lh e = true → e.yZ ≠ 0) :
    firstMotion (sumEntry r c e).window =
      if qualifies r lh e = true then motionOf e else firstMotion c.window := by
  rw [sumEntry_firstMotion, hlh]
  simp only [motionTest, h]
  by_cases hq : qualifies r lh e = true
  · rw [if_pos hq, if_pos hq, motionOf]
    by_cases hup : 0 < e.yZ
    · rw [if_pos hup, if_pos hup]
      rfl
    · have hdown : e.yZ < 0 := lt_of_le_of_ne (not_lt.mp hup) (hz hq)
      rw [if_neg hup, if_neg hup, if_pos hdown]
      rfl
  · rw [if_neg hq, if_neg hq]

/-- A polarity that is absent or decided stays (R87, R90). -/
theorem foldl_sumEntry_firstMotion_of_settled (es : List RingEntry) {c : Context} (h : c.window.polarity ≠ .pending) :
    firstMotion (es.foldl (sumEntry r) c).window = firstMotion c.window := by
  induction es generalizing c with
  | nil => rfl
  | cons e es ih =>
    have hstep := sumEntry_firstMotion_of_settled r e h
    rw [List.foldl_cons, ih (fun hp => h ((congrArg Prod.fst hstep).symm.trans hp)), hstep]

/-- A pending polarity is decided by the first entry that qualifies (R90). -/
theorem foldl_sumEntry_firstMotion_of_pending {lh : Nat} (es : List RingEntry) {c : Context}
    (h : c.window.polarity = .pending) (hlh : c.lh = some lh) (hz : ∀ e ∈ es, qualifies r lh e = true → e.yZ ≠ 0) :
    firstMotion (es.foldl (sumEntry r) c).window =
      ((es.find? (qualifies r lh)).map motionOf).getD (firstMotion c.window) := by
  induction es generalizing c with
  | nil => rfl
  | cons e es ih =>
    have hstep := sumEntry_firstMotion_of_pending r h hlh (hz e List.mem_cons_self)
    rw [List.foldl_cons]
    by_cases hq : qualifies r lh e = true
    · rw [if_pos hq] at hstep
      have hsettled : (sumEntry r c e).window.polarity ≠ .pending := by
        rw [show (sumEntry r c e).window.polarity = (motionOf e).1 from congrArg Prod.fst hstep, motionOf]
        split <;> exact nofun
      rw [foldl_sumEntry_firstMotion_of_settled r es hsettled, hstep, List.find?_cons_of_pos hq]
      rfl
    · rw [if_neg hq] at hstep
      rw [ih ((congrArg Prod.fst hstep).trans h) hlh (fun e' he' => hz e' (List.mem_cons_of_mem _ he')), hstep,
        List.find?_cons_of_neg hq]

end

/-- At most 64 values of at most 32 bits stay below the saturation of a sum (R87, R88). -/
theorem sum_entryCf_le (k : Kind) {es : List RingEntry} (hlen : es.length ≤ 64)
    (hcf : ∀ e ∈ es, e.cfV ≤ max32 ∧ e.cfH ≤ max32) : (es.map (entryCf k)).sum ≤ max48 := by
  have hentry : ∀ n ∈ es.map (entryCf k), n ≤ max32 := by
    intro n hn
    obtain ⟨e, he, rfl⟩ := List.mem_map.mp hn
    cases k with
    | v => exact (hcf e he).1
    | h => exact (hcf e he).2
  calc (es.map (entryCf k)).sum ≤ (es.map (entryCf k)).length • max32 := List.sum_le_card_nsmul _ _ hentry
    _ ≤ 64 * max32 := by
      rw [List.length_map, smul_eq_mul]
      exact Nat.mul_le_mul_right _ hlen
    _ ≤ max48 := by decide

/-- Settles O30: the sums, the marks and the first motion, each by its own fold over the entries. -/
theorem windowSumsItsEntries : Obligations.WindowSumsItsEntries := by
  intro r polarity es c hlen hcf hwindow hclip hbridged d
  have hpol : c.window.polarity = polarity := congrArg Window.polarity hwindow
  have hzero : ∀ k, energy k c.window = 0 := by
    intro k
    rw [hwindow]
    cases k <;> rfl
  have hsum : ∀ k, energy k d.window = (es.map (entryCf k)).sum := by
    intro k
    have hexact := foldl_sumEntry_energy r k es c (by rw [hzero, Nat.zero_add]; exact sum_entryCf_le k hlen hcf)
    rwa [hzero, Nat.zero_add] at hexact
  have hcounted : d.window.counted = es.length := by
    rw [foldl_sumEntry_counted, hwindow, Nat.zero_add]
  have hclips : ∀ k, d.clip.get k = true ↔ ∃ e ∈ es, e.clip.get k = true := by
    intro k
    simp only [d, foldl_sumEntry_clip, hclip, PerComp.get_all, Bool.false_eq_true, false_or]
  have hbridges : d.bridged = true ↔ ∃ e ∈ es, ∃ k, e.bridged.get k = true := by
    simp only [d, foldl_sumEntry_bridged, hbridged, Bool.false_eq_true, false_or]
  have hmotion : firstMotion c.window = (polarity, false) := by rw [hwindow]; rfl
  refine ⟨hsum .v, hsum .h, hcounted, hclips, hbridges, fun habsent => ?_, fun lh hpending hlh hz => ?_⟩
  · have hstays := foldl_sumEntry_firstMotion_of_settled r es (c := c) (by rw [hpol, habsent]; exact nofun)
    rw [hmotion, habsent] at hstays
    exact Prod.mk.inj hstays
  · have hfirst := foldl_sumEntry_firstMotion_of_pending r es (hpol.trans hpending) hlh
      (fun e he hq => hz e he (of_decide_eq_true hq))
    rw [hmotion, hpending] at hfirst
    rw [show (fun e : RingEntry => decide (lh * r.fmFactor ≤ e.cfV * 16)) = qualifies r lh from rfl]
    cases hfind : es.find? (qualifies r lh) with
    | none =>
      rw [hfind] at hfirst
      exact Prod.mk.inj hfirst
    | some e =>
      rw [hfind] at hfirst
      exact Prod.mk.inj hfirst

/-! ### Classification (R92) -/

theorem passesP_iff (r : Rules) (w : Window) : passesP r w = true ↔ r.pRatio * w.eh ≤ w.ez * 16 := decide_eq_true_iff

theorem passesS_iff (r : Rules) (w : Window) : passesS r w = true ↔ r.sRatio * w.ez ≤ w.eh * 16 := decide_eq_true_iff

theorem classify_v_iff (r : Rules) (w : Window) : (classify r .v w = .p ↔ passesP r w = true) ∧
    (classify r .v w = .s ↔ ¬ passesP r w = true ∧ passesS r w = true) ∧
    (classify r .v w = .u ↔ ¬ passesP r w = true ∧ ¬ passesS r w = true) := by
  cases hp : passesP r w
  · cases hs : passesS r w <;> simp [classify, hp, hs]
  · simp [classify, hp]

theorem classify_h_iff (r : Rules) (w : Window) : (classify r .h w = .s ↔ passesS r w = true) ∧
    (classify r .h w = .p ↔ ¬ passesS r w = true ∧ passesP r w = true) ∧
    (classify r .h w = .u ↔ ¬ passesP r w = true ∧ ¬ passesS r w = true) := by
  cases hs : passesS r w
  · cases hp : passesP r w <;> simp [classify, hp, hs]
  · simp [classify, hs]

/-- Two sums of which each is at least as large as the other by its ratio are equal. -/
theorem eq_of_ratio_le {a b m n : Nat} (hm : 16 ≤ m) (hn : 16 ≤ n) (hab : m * b ≤ a * 16) (hba : n * a ≤ b * 16) :
    a = b := by
  have hle : 16 * b ≤ a * 16 := (Nat.mul_le_mul_right b hm).trans hab
  have hge : 16 * a ≤ b * 16 := (Nat.mul_le_mul_right a hn).trans hba
  omega

/-- Both tests pass only at their limits (R92). -/
theorem both_ratios_le {a b m n : Nat} (hm : 16 ≤ m) (hn : 16 ≤ n) (hab : m * b ≤ a * 16) (hba : n * a ≤ b * 16) :
    (a = b ∧ m = 16 ∧ n = 16) ∨ (a = 0 ∧ b = 0) := by
  obtain rfl := eq_of_ratio_le hm hn hab hba
  obtain rfl | hpos := a.eq_zero_or_pos
  · exact .inr ⟨rfl, rfl⟩
  · have ratio_le : ∀ {k}, k * a ≤ a * 16 → k ≤ 16 := fun h => Nat.le_of_mul_le_mul_right (h.trans_eq (a.mul_comm 16)) hpos
    exact .inl ⟨rfl, le_antisymm (ratio_le hab) hm, le_antisymm (ratio_le hba) hn⟩

/-- Settles O31: the class follows the order of the two tests, which pass together only at their limits. -/
theorem windowIsClassifiedByItsEnergies : Obligations.WindowIsClassifiedByItsEnergies := by
  intro r w hpRatio hsRatio p q
  have hp : passesP r w = true ↔ p := passesP_iff r w
  have hs : passesS r w = true ↔ q := passesS_iff r w
  obtain ⟨vp, vs, vu⟩ := classify_v_iff r w
  obtain ⟨hhs, hhp, hhu⟩ := classify_h_iff r w
  rw [hp, hs] at *
  refine ⟨vp, vs, hhs, hhp, fun k => ?_, both_ratios_le hpRatio hsRatio⟩
  cases k with
  | v => exact vu
  | h => exact hhu

end Sys2Proof.Proofs
end

section
/-! PROOFS. ENGINE_TRIAD: the onset order, a context's turn, and a trigger merged, allocated or bare (R85 to R89, R96 to
R101, R103, R109 to R115). -/

namespace Sys2Proof.Proofs

open Sys2Proof Sys2Proof.Machine Sys2Proof.Safety

/-! ### The onset order (R96) -/

/-- Slot `i` stands before slot `j`: the smaller key first, of equal keys the lower slot (R96). -/
def Before (key : Fin 8 → Nat) (i j : Fin 8) : Prop := key i < key j ∨ (key i = key j ∧ i < j)

theorem insertByOnset_sorted {key : Fin 8 → Nat} {i : Fin 8} {xs : List (Fin 8)} (hxs : xs.Pairwise (Before key))
    (hlower : ∀ j ∈ xs, j < i) : (insertByOnset key i xs).Pairwise (Before key) := by
  induction xs with
  | nil => exact List.pairwise_singleton _ _
  | cons j js ih =>
    obtain ⟨hj, hjs⟩ := List.pairwise_cons.mp hxs
    have hji : j < i := hlower j List.mem_cons_self
    simp only [insertByOnset]
    split
    · rename_i hlt
      refine List.pairwise_cons.mpr ⟨fun k hk => ?_, hxs⟩
      obtain rfl | hk := List.mem_cons.mp hk
      · exact .inl hlt
      · have := hj k hk
        unfold Before at *
        omega
    · rename_i hle
      refine List.pairwise_cons.mpr ⟨fun k hk => ?_, ih hjs fun k hk => hlower k (List.mem_cons_of_mem _ hk)⟩
      obtain rfl | hk := (mem_insertByOnset key i k js).mp hk
      · unfold Before
        omega
      · exact hj k hk

theorem foldl_insertByOnset_perm (key : Fin 8 → Nat) (xs : List (Fin 8)) :
    (xs.foldl (fun acc i => insertByOnset key i acc) []).Perm xs := by
  induction xs using List.reverseRecOn with
  | nil => exact .refl _
  | append_singleton xs i ih =>
    rw [List.foldl_append]
    exact ((insertByOnset_perm key i _).trans (ih.cons i)).trans (List.perm_append_singleton i xs).symm

/-- Slots inserted from the lowest up come out sorted. -/
theorem foldl_insertByOnset_sorted (key : Fin 8 → Nat) {xs : List (Fin 8)} (hxs : xs.Pairwise (· < ·)) :
    (xs.foldl (fun acc i => insertByOnset key i acc) []).Pairwise (Before key) := by
  induction xs using List.reverseRecOn with
  | nil => exact .nil
  | append_singleton xs i ih =>
    obtain ⟨hsorted, -, hlast⟩ := List.pairwise_append.mp hxs
    rw [List.foldl_append]
    refine insertByOnset_sorted (ih hsorted) fun j hj => ?_
    exact hlast j ((foldl_insertByOnset_perm key xs).mem_iff.mp hj) i (List.mem_singleton_self i)

section
variable (pool : Vector (Option Context) 8)

theorem onsetOrder_perm : (onsetOrder pool).Perm (slots.filter (fun i => (pool.get i).isSome)) :=
  foldl_insertByOnset_perm _ _

theorem onsetOrder_nodup : (onsetOrder pool).Nodup :=
  (onsetOrder_perm pool).nodup_iff.mpr ((by decide : slots.Nodup).filter _)

theorem mem_onsetOrder (i : Fin 8) : i ∈ onsetOrder pool ↔ pool.get i ≠ none := by
  rw [(onsetOrder_perm pool).mem_iff, List.mem_filter, and_iff_right (mem_slots i), Option.isSome_iff_ne_none]

theorem onsetOrder_sorted : (onsetOrder pool).Pairwise (Before (fun i => onsetOf (pool.get i))) :=
  foldl_insertByOnset_sorted _ (slots_sorted.filter _)

end

/-- Settles O33: the two phases and the report, and the order of the first phase. -/
theorem engineTriadTakesContextsThenTriggers : Obligations.EngineTriadTakesContextsThenTriggers := by
  refine ⟨fun r rest s hinbox => ⟨fun hnotices => ?taken, fun n ns hns hn => ?held⟩,
    fun pool => ⟨onsetOrder_nodup pool, mem_onsetOrder pool, (onsetOrder_sorted pool).imp ?order⟩⟩
  case taken =>
    have hdue := (dueNotice_eq_none_iff _).mpr hnotices
    change execEngineTriad s = _
    simp only [execEngineTriad, hinbox, hdue]
    rfl
  case held =>
    change execEngineTriad s = _
    simp only [execEngineTriad, hinbox, dueNotice_due hns hn]
  case order =>
    intro i j hbefore c d hc hd
    simpa only [Before, onsetOf, hc, hd] using hbefore

/-! ### A context's turn (R89, R103, R109 to R115) -/

section
variable {r : Results} {s : State} {i : Fin 8} {c : Context}

theorem contextTurn_measure (h : s.ctx i = some c) (hc : c.state = .measure) :
    contextTurn r s i = measureTurn r i c s := by
  simp only [contextTurn, h, hc]

theorem contextTurn_open (h : s.ctx i = some c) (hc : c.state = .open_) : contextTurn r s i = openTurn r i c s := by
  simp only [contextTurn, h, hc]

theorem contextTurn_coda (h : s.ctx i = some c) (hc : c.state = .coda) : contextTurn r s i = codaTurn r i c s := by
  simp only [contextTurn, h, hc]

@[simp] theorem takeTriad_band (r : Results) (c : Context) : (takeTriad r c).band = c.band := rfl

section
variable {o : BandOut} (ho : r.bands.get c.band = some o)
include ho

theorem measureTurn_inside (h : r.index < windowLast s.rules c.onset) :
    measureTurn r i c s = s.setCtx i (some (sumEntry s.rules (takeTriad r c) o.entry)) := by
  simp only [measureTurn, takeTriad_band, ho, if_pos h.le, if_neg (not_le.mpr h)]

theorem measureTurn_last (h : r.index = windowLast s.rules c.onset) :
    measureTurn r i c s = complete i (sumEntry s.rules (takeTriad r c) o.entry) s := by
  simp only [measureTurn, takeTriad_band, ho, if_pos h.le, if_pos h.ge]

theorem updatePeaks_present : updatePeaks r c = { c with peaks :=
    ⟨peakAfter (r.index - c.onset) o.y.z c.peaks.z, peakAfter (r.index - c.onset) o.y.n c.peaks.n,
      peakAfter (r.index - c.onset) o.y.e c.peaks.e⟩ } := by
  simp only [updatePeaks, ho]

end

theorem measureTurn_beyond (h : windowLast s.rules c.onset < r.index) :
    measureTurn r i c s = complete i (takeTriad r c) s := by
  simp only [measureTurn, if_neg (not_le.mpr h), if_pos h.le]

theorem peakAfter_eq (k : Nat) (y : Int) (p : Peak) :
    peakAfter k y p = if y.natAbs ≤ p.magnitude then p else ⟨y.natAbs, k⟩ := by
  simp only [peakAfter, ← not_le, ite_not]

theorem heldBack_iff (r : Results) (mask : PerBand Bool) :
    heldBack r mask = true ↔ ∃ d : Det, mask.get d.band = true ∧ r.states.get d = .on := by
  have hall : ∀ d, d ∈ Det.all := by
    intro d
    cases d <;> decide
  simp [heldBack, hall]

end

/-- Settles O36: a context's turn by its state. -/
theorem contextsActOnATriadByTheirState : Obligations.ContextsActOnATriadByTheirState := by
  intro r i c o s hc ho last k marked peak c' live
  have hpeaks : takeTriad r (updatePeaks r c) = c' := by
    rw [updatePeaks_present ho]
    simp only [peakAfter_eq]
    rfl
  refine ⟨fun hstate => ?measure, fun hstate hwait => ?waits, fun hstate hwait => ?waited, fun hstate => ?coda⟩
  case measure =>
    rw [contextTurn_measure hc hstate]
    exact ⟨measureTurn_inside ho, measureTurn_last ho, measureTurn_beyond⟩
  case waits =>
    rw [contextTurn_open hc hstate, openTurn, hpeaks, sWaitTest, if_neg (not_le.mpr hwait)]
    rfl
  case waited =>
    rw [contextTurn_open hc hstate, openTurn, hpeaks, sWaitTest, if_pos hwait]
    rfl
  case coda =>
    intro held n hheld hfree
    have hcount : codaStep r c' = { c' with codaCount := n } := by
      by_cases h : held
      · have hback : heldBack r c'.mask = true := (heldBack_iff r c.mask).mpr h
        rw [codaStep, if_pos hback, hheld h]
      · have hback : ¬ heldBack r c'.mask = true := fun hb => h ((heldBack_iff r c.mask).mp hb)
        rw [codaStep, if_neg hback, hfree h]
    have hturn : contextTurn r s i = if s.rules.codaHold ≤ n then closeContext .quiet i { c' with codaCount := n } s
        else lifeTest i { c' with codaCount := n } s := by
      rw [contextTurn_coda hc hstate]
      simp only [codaTurn, hpeaks, hcount]
    exact ⟨fun hquiet => hturn.trans (if_pos hquiet), fun hgoes => hturn.trans (if_neg (not_le.mpr hgoes))⟩

/-! ### Allocation (R87, R88, R99) -/

theorem windowLast_le_iff {r : Rules} (h : 1 ≤ r.fmWindow) (onset n : Nat) :
    windowLast r onset ≤ n ↔ onset + r.fmWindow ≤ n + 1 := by
  unfold windowLast
  omega

/-- Settles O35: the context set up, its window's entries, and the completion of a window that is already whole. -/
theorem allocationStartsTheMeasurement : Obligations.AllocationStartsTheMeasurement := by
  intro i t f time s hwindow fresh entries c u
  have hfresh : newContext t f time = fresh := by
    simp only [newContext, fresh]
    cases t.det.kind <;> rfl
  have hentries : windowEntries s.rules (s.array.rings.get t.det.band) t f = entries :=
    List.filter_congr fun e _ => decide_eq_decide.mpr (and_congr_right' le_min_iff.symm)
  have halloc : allocateAt i t f time s = if windowLast s.rules f.onset ≤ t.index then complete i c u else u := by
    simp only [allocateAt, hfresh, hentries]
    rfl
  simp only [windowLast_le_iff hwindow] at halloc
  exact ⟨fun hshort => halloc.trans (if_neg (not_le.mpr hshort)), fun hwhole => halloc.trans (if_pos hwhole)⟩

/-! ### A trigger (R84, R99 to R101) -/

/-- In a list sorted by an asymmetric relation, the element that meets `p` and stands before all others that do is the one
found first. -/
theorem find?_eq_some_of_first {α : Type} {R : α → α → Prop} {xs : List α} {p : α → Bool} {x : α}
    (hR : ∀ a b, R a b → ¬ R b a) (hxs : xs.Pairwise R) (hx : x ∈ xs) (hp : p x = true)
    (hfirst : ∀ y ∈ xs, p y = true → y ≠ x → R x y) : xs.find? p = some x := by
  induction xs with
  | nil => cases hx
  | cons y ys ih =>
    obtain ⟨hy, hys⟩ := List.pairwise_cons.mp hxs
    obtain rfl | hmem := List.mem_cons.mp hx
    · exact List.find?_cons_of_pos hp
    · have hpy : ¬ p y = true := by
        intro hpy
        by_cases hyx : y = x
        · subst hyx
          exact hR y y (hy y hmem) (hy y hmem)
        · exact hR y x (hy x hmem) (hfirst y List.mem_cons_self hpy hyx)
      rw [List.find?_cons_of_neg hpy]
      exact ih hys hmem fun z hz => hfirst z (List.mem_cons_of_mem _ hz)

section
variable {s : State}

/-- The first FREE slot from the one after the allocation pointer (R99). -/
theorem freeSlot_eq_some {k : Fin 8} (hk : s.ctx (s.engine.ptr + 1 + k) = none)
    (hbefore : ∀ j : Fin 8, j < k → s.ctx (s.engine.ptr + 1 + j) ≠ none) :
    freeSlot s = some (s.engine.ptr + 1 + k) := by
  have hfind : slots.find? ((fun i => (s.ctx i).isNone) ∘ fun k => s.engine.ptr + 1 + k) = some k := by
    refine find?_eq_some_of_first (fun a b => lt_asymm) slots_sorted (mem_slots k) (Option.isNone_iff_eq_none.mpr hk) ?_
    intro j _ hj hne
    exact lt_of_le_of_ne (not_lt.mp fun hlt => hbefore j hlt (Option.isNone_iff_eq_none.mp hj)) hne.symm
  rw [freeSlot, List.find?_map, hfind]
  rfl

theorem freeSlot_eq_none (h : ∀ i, s.ctx i ≠ none) : freeSlot s = none := by
  simp [freeSlot, h]

theorem before_asymm (key : Fin 8 → Nat) (i j : Fin 8) (h : Before key i j) : ¬ Before key j i := by
  unfold Before at *
  omega

/-- The CODA context whose onset is smallest, of those the lowest slot (R100). -/
theorem oldestCoda_eq_some {i : Fin 8} {c : Context} (hi : s.ctx i = some c) (hc : c.state = .coda)
    (hfirst : ∀ j d, s.ctx j = some d → d.state = .coda → j ≠ i → c.onset < d.onset ∨ (c.onset = d.onset ∧ i < j)) :
    oldestCoda s = some i := by
  have hslot : ∀ j, s.engine.pool.get j = s.ctx j := fun _ => rfl
  refine find?_eq_some_of_first (before_asymm _) (onsetOrder_sorted s.engine.pool) ?_ ?_ fun j _ hj hne => ?_
  · rw [mem_onsetOrder, hslot, hi]
    exact nofun
  · simp only [hi, hc, decide_true]
  · cases hd : s.ctx j with
    | none => simp only [hd, Bool.false_eq_true] at hj
    | some d =>
      simp only [hd, decide_eq_true_eq] at hj
      simpa only [Before, onsetOf, hslot, hi, hd] using hfirst j d hd hj hne

theorem oldestCoda_eq_none (h : ∀ i c, s.ctx i = some c → c.state ≠ .coda) : oldestCoda s = none := by
  refine List.find?_eq_none.mpr fun i _ => ?_
  cases hc : s.ctx i with
  | none => exact Bool.false_ne_true
  | some c => simpa only [decide_eq_true_eq] using h i c hc

theorem evict_eq {i : Fin 8} {c : Context} (h : s.ctx i = some c) :
    evict i s = ((closeContext .evicted i c s).bump .evictions 1).latch .eviction := by
  simp only [evict, h]

/-- A trigger's band joins the mask of the context it matches (R84). -/
theorem mergeInto_eq {i : Fin 8} {c : Context} (b : Band) (h : s.ctx i = some c) :
    mergeInto i b s = s.setCtx i (some { c with mask :=
      ⟨c.mask.b0 || decide (b = .b0), c.mask.b1 || decide (b = .b1), c.mask.b2 || decide (b = .b2)⟩ }) := by
  simp only [mergeInto, h, PerBand.or, PerBand.single, PerBand.of, eq_comm]

section
variable (r : Results) {t : Trigger}

theorem takeTrigger_merged {i : Fin 8} (h : mergeTarget s t.det.kind (searchOnset s t).onset = some i) :
    takeTrigger r s t = mergeInto i t.det.band s := by
  simp only [takeTrigger, h]

theorem takeTrigger_unmatched (h : mergeTarget s t.det.kind (searchOnset s t).onset = none) :
    takeTrigger r s t = allocate t (searchOnset s t) (onsetTime s.period r (searchOnset s t)) s := by
  simp only [takeTrigger, h]

end

section
variable {i : Fin 8} (t : Trigger) (f : Found) (time : Nat)

theorem allocate_free (h : freeSlot s = some i) : allocate t f time s = allocateAt i t f time s := by
  simp only [allocate, h]

theorem allocate_evicting (h : freeSlot s = none) (hcoda : oldestCoda s = some i) :
    allocate t f time s = allocateAt i t f time (evict i s) := by
  simp only [allocate, h, hcoda]

theorem allocate_bare (h : freeSlot s = none) (hcoda : oldestCoda s = none) : allocate t f time s =
    (generateBare 8 time f.quality (.single t.det.band) t.det.kind f.truncated true false s).latch .noContext := by
  simp only [allocate, h, hcoda]

end

/-- Going back from a trigger's time to its onset's comes to the onset's own grid time (R81, R126). -/
theorem onsetTime_grid {r : Results} {t : Trigger} {alignTime : Nat} (period : Nat)
    (h : r.time = alignTime + t.index * period) :
    onsetTime period r (searchOnset s t) = (alignTime + (searchOnset s t).onset * period) % 2 ^ 64 := by
  have hle : (searchOnset s t).onset ≤ t.index := (backSearch_found _ _ _ _ _ _).onset_le
  have hquality : (searchOnset s t).quality = t.index - (searchOnset s t).onset := rfl
  have hsplit : t.index * period = (searchOnset s t).onset * period + (searchOnset s t).quality * period := by
    rw [← Nat.add_mul, hquality, Nat.add_sub_cancel' hle]
  rw [onsetTime, h, hsplit, ← Nat.add_assoc, Nat.add_sub_cancel]

end

/-- Settles O34: the merge check first, then a FREE slot, an evicted one, or none. -/
theorem triggerIsMergedAllocatedOrBare : Obligations.TriggerIsMergedAllocatedOrBare := by
  intro r t s f time
  refine ⟨fun alignTime htime => onsetTime_grid s.period htime, fun i c hmerge hc => ?merged, fun hnone => ?unmatched⟩
  case merged => rw [takeTrigger_merged r hmerge, mergeInto_eq t.det.band hc]
  case unmatched =>
    have hallocate : takeTrigger r s t = allocate t f time s := takeTrigger_unmatched r hnone
    rw [hallocate]
    refine ⟨fun k hfree hbefore => allocate_free t f time (freeSlot_eq_some hfree hbefore), fun hfull => ?_⟩
    have hnoFree := freeSlot_eq_none hfull
    refine ⟨fun i c hi hcoda hfirst => ?_, fun hnoCoda => ?_⟩
    · rw [allocate_evicting t f time hnoFree (oldestCoda_eq_some hi hcoda hfirst), evict_eq hi]
    · rw [allocate_bare t f time hnoFree (oldestCoda_eq_none hnoCoda)]
      rfl

end Sys2Proof.Proofs
end

section
/-! PROOFS. Event numbers: the numbers in their cyclic order from the counter, of which nine tries always reach one that
no context holds (R102). -/

namespace Sys2Proof.Proofs

open Sys2Proof Sys2Proof.Machine Sys2Proof.Safety

/-! ### The cyclic order -/

/-- The number that stands `k` places behind the first number after the counter, 1 following 65,535 (R102). -/
def numberAfter (counter k : Nat) : Nat := (counter + k) % 65535 + 1

theorem numberAfter_zero {counter : Nat} (h : counter ≤ 65535) : numberAfter counter 0 = successor counter := by
  simp only [numberAfter, successor]
  split <;> omega

theorem numberAfter_successor {counter : Nat} (h : counter ≤ 65535) (k : Nat) :
    numberAfter (successor counter) k = numberAfter counter (k + 1) := by
  simp only [numberAfter, successor]
  split <;> omega

theorem numberAfter_injOn (counter : Nat) {j k : Nat} (hj : j < 65535) (hk : k < 65535)
    (h : numberAfter counter j = numberAfter counter k) : j = k := by
  simp only [numberAfter] at h
  omega

/-- How many places a number stands behind the first number after the counter. -/
def placeOf (counter n : Nat) : Nat := (n + 65535 - counter - 1) % 65535

theorem placeOf_numberAfter {counter k : Nat} (h : counter ≤ 65535) (hk : k < 65535) :
    placeOf counter (numberAfter counter k) = k := by
  simp only [placeOf, numberAfter]
  omega

theorem numberAfter_placeOf {counter n : Nat} (h : counter ≤ 65535) (h1 : 1 ≤ n) (hn : n ≤ 65535) :
    numberAfter counter (placeOf counter n) = n := by
  simp only [placeOf, numberAfter]
  omega

/-! ### The search -/

/-- The search passes over held numbers only, and stops short of its last try only at a number that is not held. -/
theorem nextNumber_eq_numberAfter (held : List Nat) (tries : Nat) {counter : Nat} (h : counter ≤ 65535) :
    ∃ k ≤ tries, nextNumber held tries counter = numberAfter counter k ∧
      (∀ j < k, numberAfter counter j ∈ held) ∧ (k < tries → numberAfter counter k ∉ held) := by
  induction tries generalizing counter with
  | zero => exact ⟨0, le_rfl, (numberAfter_zero h).symm, by simp, by simp⟩
  | succ tries ih =>
    by_cases hheld : successor counter ∈ held
    · obtain ⟨k, hk, hnext, hbelow, hfree⟩ := ih (successor_range counter h).2
      simp only [numberAfter_successor h] at hnext hbelow hfree
      refine ⟨k + 1, by omega, ?_, fun j hj => ?_, fun hlt => hfree (by omega)⟩
      · rw [nextNumber, if_pos (List.contains_iff_mem.mpr hheld), hnext]
      · cases j with
        | zero => rwa [numberAfter_zero h]
        | succ j => exact hbelow j (by omega)
    · refine ⟨0, Nat.zero_le _, ?_, by simp, fun _ => by rwa [numberAfter_zero h]⟩
      rw [nextNumber, if_neg (by simpa using hheld), numberAfter_zero h]

/-- More consecutive numbers than a list is long do not all stand in it. -/
theorem exists_numberAfter_not_mem {held : List Nat} {n : Nat} (hlen : held.length < n) (hn : n ≤ 65535)
    (counter : Nat) :
    ∃ k < n, numberAfter counter k ∉ held := by
  by_contra! hall
  have hnodup : ((List.range n).map (numberAfter counter)).Nodup :=
    List.nodup_range.map_on fun j hj k hk =>
      numberAfter_injOn counter ((List.mem_range.mp hj).trans_le hn) ((List.mem_range.mp hk).trans_le hn)
  have hsub : (List.range n).map (numberAfter counter) ⊆ held := by
    intro m hm
    obtain ⟨k, hk, rfl⟩ := List.mem_map.mp hm
    exact hall k (List.mem_range.mp hk)
  have hle := (hnodup.subperm hsub).length_le
  rw [List.length_map, List.length_range] at hle
  omega

/-- With more tries than numbers held the search finds the first number that is not held. -/
theorem nextNumber_first_not_held {held : List Nat} {tries counter : Nat} (h : counter ≤ 65535)
    (hlen : held.length ≤ tries) (htries : tries < 65535) :
    ∃ k ≤ tries, nextNumber held tries counter = numberAfter counter k ∧ numberAfter counter k ∉ held ∧
      ∀ j < k, numberAfter counter j ∈ held := by
  obtain ⟨k, hk, hnext, hbelow, hfree⟩ := nextNumber_eq_numberAfter held tries h
  refine ⟨k, hk, hnext, ?_, hbelow⟩
  by_cases hlast : k < tries
  · exact hfree hlast
  · obtain ⟨m, hm, hout⟩ := exists_numberAfter_not_mem (Nat.lt_succ_of_le hlen) htries counter
    have hmk : m = k := by
      by_contra hne
      exact hout (hbelow m (by omega))
    exact hmk ▸ hout

/-! ### The numbers held -/

theorem heldNumber_eq_some_iff (c : Option Context) (n : Nat) :
    heldNumber c = some n ↔ ∃ x, c = some x ∧ x.state ≠ .measure ∧ x.event = n := by
  cases c with
  | none => simp [heldNumber]
  | some x => cases hx : x.state <;> simp [heldNumber, hx]

theorem mem_heldNumbers (s : State) (n : Nat) :
    n ∈ heldNumbers s ↔ ∃ i c, s.ctx i = some c ∧ c.state ≠ .measure ∧ c.event = n := by
  simp only [heldNumbers, List.mem_filterMap, heldNumber_eq_some_iff, mem_slots, true_and]

theorem heldNumbers_length (s : State) : (heldNumbers s).length ≤ 8 := List.length_filterMap_le _ _

section
variable {s : State} (h : s.engine.counter ≤ 65535)
include h

/-- The number taken next is the first after the counter that no context in OPEN or CODA holds (R102). -/
theorem freshNumber_first_not_held :
    ∃ k < 65535, s.freshNumber = numberAfter s.engine.counter k ∧ s.freshNumber ∉ heldNumbers s ∧
      ∀ j < k, numberAfter s.engine.counter j ∈ heldNumbers s := by
  obtain ⟨k, hk, hnext, hout, hbelow⟩ := nextNumber_first_not_held h (heldNumbers_length s) (by omega)
  have hfresh : s.freshNumber = numberAfter s.engine.counter k := hnext
  exact ⟨k, by omega, hfresh, hfresh ▸ hout, hbelow⟩

theorem freshNumber_range : 1 ≤ s.freshNumber ∧ s.freshNumber ≤ 65535 := nextNumber_range _ _ _ h

/-- No context in OPEN or CODA holds the number taken next. -/
theorem event_ne_freshNumber {i : Fin 8} {c : Context} (hc : s.ctx i = some c) (hstate : c.state ≠ .measure) :
    c.event ≠ s.freshNumber := by
  obtain ⟨-, -, -, hout, -⟩ := freshNumber_first_not_held h
  exact fun he => hout ((mem_heldNumbers s _).mpr ⟨i, c, hc, hstate, he⟩)

end

/-- Settles O32: the search in the cyclic order, which at most eight held numbers cannot fill. -/
theorem eventNumberIsTheNextNotHeld : Obligations.EventNumberIsTheNextNotHeld := by
  intro s h held steps
  obtain ⟨k, hk, hfresh, hout, hbelow⟩ := freshNumber_first_not_held h
  obtain ⟨hpos, htop⟩ := freshNumber_range h
  refine ⟨hpos, htop, (mem_heldNumbers s _).not.mp hout, fun n h1 hn hlt => ?_⟩
  change placeOf s.engine.counter n < placeOf s.engine.counter s.freshNumber at hlt
  rw [hfresh, placeOf_numberAfter h hk] at hlt
  have hmem := hbelow _ hlt
  rw [numberAfter_placeOf h h1 hn] at hmem
  exact (mem_heldNumbers s n).mp hmem

end Sys2Proof.Proofs
end

section
/-! PROOFS. The parent of a candidate, and what becomes of a completed candidate by its class and its parent (R104 to
R108). -/

namespace Sys2Proof.Proofs

open Sys2Proof Sys2Proof.Machine Sys2Proof.Safety

/-! ### The parent (R104) -/

/-- What a search finds in a list sorted by `R` meets the condition and stands before every other element that does. -/
theorem find?_first_of_pairwise {α : Type} {R : α → α → Prop} {xs : List α} {p : α → Bool} {x : α}
    (hxs : xs.Pairwise R) (h : xs.find? p = some x) : x ∈ xs ∧ p x = true ∧ ∀ y ∈ xs, p y = true → y = x ∨ R x y := by
  obtain ⟨hx, pre, suf, rfl, hpre⟩ := List.find?_eq_some_iff_append.mp h
  refine ⟨by simp, hx, fun y hy hpy => ?_⟩
  obtain ⟨-, hsuf, -⟩ := List.pairwise_append.mp hxs
  obtain hy | hy := List.mem_append.mp hy
  · have hnot := hpre y hy
    simp only [hpy, Bool.not_true, Bool.false_eq_true] at hnot
  · exact (List.mem_cons.mp hy).imp_right ((List.pairwise_cons.mp hsuf).1 y)

/-- Slot `j` holds a context other than the candidate's own that can be the parent of the onset (R104). -/
def FitsParent (s : State) (i : Fin 8) (onset : Nat) (j : Fin 8) (p : Context) : Prop :=
  s.ctx j = some p ∧ j ≠ i ∧ p.state ≠ .measure ∧ p.phase = some .p ∧ p.onset + s.rules.sMin ≤ onset ∧
    onset ≤ p.onset + s.rules.sMax

section
variable {s : State} {i : Fin 8} {onset : Nat}

theorem FitsParent.ctx {j : Fin 8} {p : Context} (h : FitsParent s i onset j p) : s.ctx j = some p := h.1

theorem parentTest_iff (j : Fin 8) :
    (decide (j ≠ i) && canParent s.rules onset (s.ctx j)) = true ↔ ∃ p, FitsParent s i onset j p := by
  cases hj : s.ctx j with
  | none => simp [canParent, FitsParent, hj]
  | some p => simp [canParent, FitsParent, hj]

/-- Every slot that is not FREE stands in the onset order. -/
theorem mem_onsetOrder_of_ctx {j : Fin 8} {c : Context} (h : s.ctx j = some c) : j ∈ onsetOrder s.engine.pool := by
  have hslot : s.engine.pool.get j = some c := h
  simp [mem_onsetOrder, hslot]

theorem parentOf_eq_none_iff : parentOf s i onset = none ↔ ∀ j p, ¬ FitsParent s i onset j p := by
  simp only [parentOf, List.find?_eq_none, parentTest_iff, not_exists]
  exact ⟨fun h j p hfits => h j (mem_onsetOrder_of_ctx hfits.ctx) p hfits, fun h j _ => h j⟩

/-- A parent fits, and no context that fits stands before it in the onset order. -/
theorem parentOf_first {j : Fin 8} (h : parentOf s i onset = some j) :
    ∃ p, FitsParent s i onset j p ∧
      ∀ k q, FitsParent s i onset k q → p.onset < q.onset ∨ (p.onset = q.onset ∧ j ≤ k) := by
  obtain ⟨-, htest, hfirst⟩ := find?_first_of_pairwise (onsetOrder_sorted s.engine.pool) h
  obtain ⟨p, hp⟩ := (parentTest_iff j).mp htest
  refine ⟨p, hp, fun k q hq => ?_⟩
  have hj : s.engine.pool.get j = some p := hp.ctx
  have hk : s.engine.pool.get k = some q := hq.ctx
  obtain rfl | hbefore := hfirst k (mem_onsetOrder_of_ctx hq.ctx) ((parentTest_iff k).mpr ⟨q, hq⟩)
  · exact .inr ⟨congrArg Context.onset (Option.some.inj (hj.symm.trans hk)), le_rfl⟩
  · simp only [Before, onsetOf, hj, hk] at hbefore
    exact hbefore.imp_right fun ⟨he, hlt⟩ => ⟨he, hlt.le⟩

/-- The context that a parent's slot holds fits. -/
theorem parentOf_fits {j : Fin 8} {p : Context} (h : parentOf s i onset = some j) (hp : s.ctx j = some p) :
    FitsParent s i onset j p := by
  obtain ⟨q, hq, -⟩ := parentOf_first h
  obtain rfl : q = p := Option.some.inj (hq.ctx.symm.trans hp)
  exact hq

end

/-- Settles O37: the first slot in the onset order that fits. -/
theorem parentIsTheOldestWithTheOnsetInItsWindow : Obligations.ParentIsTheOldestWithTheOnsetInItsWindow :=
  fun _ _ _ => ⟨parentOf_eq_none_iff, fun _ => parentOf_first⟩

/-! ### The resolution (R104 to R108) -/

theorem finishPolarity_eq (w : Window) : finishPolarity w =
    if w.polarity = .pending then { w with polarity := .unknown, polarityClipped := false } else w := by
  cases h : w.polarity <;> simp [finishPolarity, h]

@[simp] theorem finishPolarity_ez (w : Window) : (finishPolarity w).ez = w.ez := by
  rw [finishPolarity_eq]
  split <;> rfl

@[simp] theorem finishPolarity_eh (w : Window) : (finishPolarity w).eh = w.eh := by
  rw [finishPolarity_eq]
  split <;> rfl

section
variable {i : Fin 8} {c : Context} {s : State}

/-- A candidate of class P becomes an own event in OPEN (R105). -/
theorem resolveAs_p : resolveAs .p i c s = ownEvent .p .open_ i c s := rfl

/-- Without a parent a candidate of class S or U becomes an own event in CODA (R108). -/
theorem resolveAs_alone {cls : Phase} (hcls : cls ≠ .p) (hc : c.parent = none) :
    resolveAs cls i c s = ownEvent cls .coda i c s := by
  cases cls with
  | p => exact absurd rfl hcls
  | s => simp only [resolveAs, hc]
  | u => simp only [resolveAs, hc]

variable {j : Fin 8} {p : Context} (hc : c.parent = some j) (hp : s.ctx j = some p)
include hc hp

/-- A candidate of class S joins a parent that has no S part (R106). -/
theorem resolveAs_attached (hs : p.sPart = none) : resolveAs .s i c s = attachS i j c p s := by
  simp only [resolveAs, hc, hp, hs]

/-- A candidate of class U, or of class S whose parent has an S part, joins its parent as a secondary (R107). -/
theorem resolveAs_absorbed {cls : Phase} (hcls : cls ≠ .p) (h : cls = .u ∨ p.sPart ≠ none) :
    resolveAs cls i c s = absorb i j c p s := by
  cases cls with
  | p => exact absurd rfl hcls
  | u => simp only [resolveAs, hc, hp]
  | s =>
    obtain ⟨sp, hsp⟩ := Option.ne_none_iff_exists'.mp (h.resolve_left nofun)
    simp only [resolveAs, hc, hp, hsp]

end

/-- Settles O38: the rows of R104's table, each an operation of its own. -/
theorem candidateIsResolvedByClassAndParent : Obligations.CandidateIsResolvedByClassAndParent := by
  intro i c s cls w n own joined sp
  have hw : finishPolarity c.window = w := finishPolarity_eq c.window
  have hresolved : complete i c s =
      resolveAs cls i { c with window := finishPolarity c.window, parent := parentOf s i c.onset } s := rfl
  refine ⟨fun hcls => ?event, fun hcls hnone => ?alone, fun j p hcls hparent hp => ⟨fun hs hfree => ?attached,
    fun habsorbed => ?absorbed⟩⟩
  case event =>
    rw [hresolved, hcls, resolveAs_p, hw]
    simp only [own, hcls]
    rfl
  case alone =>
    rw [hresolved, resolveAs_alone hcls hnone, hw]
    rfl
  case attached =>
    rw [hresolved, hs, resolveAs_attached hparent hp hfree]
    simp only [attachS, sPartOf, finishPolarity_ez, finishPolarity_eh]
    rfl
  case absorbed =>
    rw [hresolved, resolveAs_absorbed hparent hp hcls habsorbed]
    rfl

end Sys2Proof.Proofs
end

section
/-! PROOFS. Closures: what a forced closure does with one context, and what the whole of it leaves of the pool, the
count of bare onsets, the event counter and the records (R113, R116, R128, R130). -/

namespace Sys2Proof.Proofs

open Sys2Proof Sys2Proof.Machine Sys2Proof.Safety

/-! ### Admission (R133) -/

theorem admitRecord_bareOnsets (r : Record) (s : State) :
    (admitRecord r s).status.counters.bareOnsets = s.status.counters.bareOnsets := by
  obtain ⟨-, _, -, e⟩ | ⟨-, -, -, e⟩ | ⟨-, e⟩ := admitRecord_cases r s <;> rw [e] <;> rfl

/-- Below the watermark and 32 records a record is admitted whole. -/
theorem admitRecord_of_room {s : State} (r : Record) (h : s.arrivals.records.length < min s.rules.watermark 32) :
    admitRecord r s = s.enqueue r := by
  obtain ⟨hwatermark, hdepth⟩ := lt_min_iff.mp h
  simp only [admitRecord, Config.arrivalDepth, if_neg (not_le.mpr hdepth), if_pos hwatermark]

/-! ### One slot -/

theorem ctx_setCtx (s : State) (i j : Fin 8) (c : Option Context) :
    (s.setCtx i c).ctx j = if j = i then c else s.ctx j := by
  by_cases h : j = i
  · rw [h, if_pos rfl, ctx_setCtx_self]
  · rw [if_neg h, ctx_setCtx_ne s c h]

/-- A close frees the slot and leaves every other as it is. -/
theorem closeContext_ctx (cause : Cause) (i j : Fin 8) (c : Context) (s : State) :
    (closeContext cause i c s).ctx j = if j = i then none else s.ctx j := by
  rw [closeContext, ctx_setCtx, admitRecord_ctx]

/-- The slot holds a candidate in MEASURE. -/
def measuresAt (s : State) (i : Fin 8) : Bool := (s.ctx i).any (fun c => decide (c.state = .measure))

section
variable {s : State} {i : Fin 8} {c : Context} (cause : Cause)

theorem forceContext_free (h : s.ctx i = none) : forceContext cause s i = s := by
  simp only [forceContext, h]

/-- A candidate becomes a bare onset marked INCOMPLETE (R113). -/
theorem forceContext_measure (h : s.ctx i = some c) (hc : c.state = .measure) : forceContext cause s i =
    (generateBare i.val c.onsetTime c.quality c.mask c.kind c.truncated false true s).setCtx i none := by
  simp only [forceContext, h, hc]

/-- A context in OPEN or CODA closes (R113). -/
theorem forceContext_closes (h : s.ctx i = some c) (hc : c.state ≠ .measure) :
    forceContext cause s i = closeContext cause i c s := by
  cases hstate : c.state with
  | measure => exact absurd hstate hc
  | open_ => simp only [forceContext, h, hstate]
  | coda => simp only [forceContext, h, hstate]

end

/-- What a forced closure does with one slot. -/
theorem forceContext_cases (cause : Cause) (s : State) (i : Fin 8) :
    (s.ctx i = none ∧ forceContext cause s i = s) ∨
    (∃ c, s.ctx i = some c ∧ c.state = .measure ∧ forceContext cause s i =
      (generateBare i.val c.onsetTime c.quality c.mask c.kind c.truncated false true s).setCtx i none) ∨
    (∃ c, s.ctx i = some c ∧ c.state ≠ .measure ∧ forceContext cause s i = closeContext cause i c s) := by
  cases hi : s.ctx i with
  | none => exact .inl ⟨rfl, forceContext_free cause hi⟩
  | some c =>
    by_cases hc : c.state = .measure
    · exact .inr (.inl ⟨c, rfl, hc, forceContext_measure cause hi hc⟩)
    · exact .inr (.inr ⟨c, rfl, hc, forceContext_closes cause hi hc⟩)

theorem forceContext_ptr (cause : Cause) (s : State) (i : Fin 8) :
    (forceContext cause s i).engine.ptr = s.engine.ptr := by
  obtain ⟨-, e⟩ | ⟨c, -, -, e⟩ | ⟨c, -, -, e⟩ := forceContext_cases cause s i <;> rw [e]
  · simp [generateBare]
  · simp [closeContext]

theorem forceContext_bareOnsets (cause : Cause) (s : State) (i : Fin 8) :
    (forceContext cause s i).status.counters.bareOnsets =
      if measuresAt s i then satAdd s.status.counters.bareOnsets 1 else s.status.counters.bareOnsets := by
  obtain ⟨hi, e⟩ | ⟨c, hi, hc, e⟩ | ⟨c, hi, hc, e⟩ := forceContext_cases cause s i <;> rw [e]
  · rw [if_neg (by simp [measuresAt, hi])]
  · rw [if_pos (by simp [measuresAt, hi, hc])]
    exact congrArg (satAdd · 1) (admitRecord_bareOnsets _ _)
  · rw [if_neg (by simp [measuresAt, hi, hc])]
    exact admitRecord_bareOnsets _ _

/-! ### All slots of a list -/

section
variable (cause : Cause) {xs : List (Fin 8)}

/-- The slots taken are FREE, every other is as it was. -/
theorem foldl_forceContext_ctx (xs : List (Fin 8)) (s : State) (j : Fin 8) :
    (xs.foldl (forceContext cause) s).ctx j = if j ∈ xs then none else s.ctx j := by
  induction xs generalizing s with
  | nil => simp
  | cons i xs ih =>
    rw [List.foldl_cons, ih, forceContext_ctx]
    by_cases hj : j = i <;> simp [hj]

/-- A slot that is taken later is not touched before its turn. -/
theorem forceContext_ctx_of_mem {i j : Fin 8} (s : State) (hxs : (i :: xs).Nodup) (hj : j ∈ xs) :
    (forceContext cause s i).ctx j = s.ctx j := by
  have hne : j ≠ i := fun e => (List.nodup_cons.mp hxs).1 (e ▸ hj)
  rw [forceContext_ctx, if_neg hne]

/-- Each candidate counts one bare onset, up to the top of the counter. -/
theorem foldl_forceContext_bareOnsets (hxs : xs.Nodup) {s : State} (h : s.status.counters.bareOnsets ≤ max32) :
    (xs.foldl (forceContext cause) s).status.counters.bareOnsets =
      min (s.status.counters.bareOnsets + (xs.filter (measuresAt s)).length) max32 := by
  induction xs generalizing s with
  | nil => exact (min_eq_left h).symm
  | cons i xs ih =>
    have hfilter : xs.filter (measuresAt (forceContext cause s i)) = xs.filter (measuresAt s) :=
      List.filter_congr fun j hj => by rw [measuresAt, forceContext_ctx_of_mem cause s hxs hj, measuresAt]
    have hstep := forceContext_bareOnsets cause s i
    by_cases hi : measuresAt s i = true
    · rw [if_pos hi] at hstep
      rw [List.foldl_cons, ih hxs.of_cons (hstep ▸ satAdd_le _ _), hfilter, hstep, List.filter_cons_of_pos hi,
        List.length_cons, satAdd]
      omega
    · rw [if_neg hi] at hstep
      rw [List.foldl_cons, ih hxs.of_cons (hstep ▸ h), hfilter, hstep, List.filter_cons_of_neg hi]

/-- Where there is room its CLOSE is admitted whole. -/
theorem forceContext_closes_of_room {s : State} {i : Fin 8} {c : Context} (h : s.ctx i = some c)
    (hc : c.state ≠ .measure) (hroom : s.arrivals.records.length < min s.rules.watermark 32) :
    forceContext cause s i = (s.enqueue (closeRecord cause c)).setCtx i none := by
  rw [forceContext_closes cause h hc, closeContext, admitRecord_of_room _ hroom]

/-- No candidate comes up where there is none. -/
theorem forceContext_keeps_no_candidate {s : State} (i : Fin 8) (hno : ∀ j c, s.ctx j = some c → c.state ≠ .measure) :
    ∀ j c, (forceContext cause s i).ctx j = some c → c.state ≠ .measure := by
  intro j c hj
  rw [forceContext_ctx] at hj
  split at hj
  · cases hj
  · exact hno j c hj

/-- With no candidate and room for a record of each slot, each context adds its CLOSE, and no number is taken. -/
theorem foldl_forceContext_closes (hxs : xs.Nodup) {s : State} (hno : ∀ i c, s.ctx i = some c → c.state ≠ .measure)
    (hroom : s.arrivals.records.length + xs.length ≤ min s.rules.watermark 32) :
    (xs.foldl (forceContext cause) s).engine.counter = s.engine.counter ∧
      (xs.foldl (forceContext cause) s).arrivals.records =
        s.arrivals.records ++ xs.filterMap (fun i => (s.ctx i).map (closeRecord cause)) := by
  induction xs generalizing s with
  | nil => simp
  | cons i xs ih =>
    rw [List.length_cons] at hroom
    rw [List.foldl_cons]
    cases hi : s.ctx i with
    | none =>
      obtain ⟨hcounter, hrecords⟩ := ih hxs.of_cons hno (by omega)
      rw [forceContext_free cause hi]
      exact ⟨hcounter, by rw [hrecords, List.filterMap_cons_none (by rw [hi]; rfl)]⟩
    | some c =>
      have hclosed := forceContext_closes_of_room cause hi (hno i c hi) (by omega)
      have hrules : (forceContext cause s i).rules = s.rules := (sameOutsideEngine_forceContext s cause i).rules
      have hqueue : (forceContext cause s i).arrivals.records = s.arrivals.records ++ [closeRecord cause c] := by
        rw [hclosed]
        rfl
      obtain ⟨hcounter, hrecords⟩ := ih hxs.of_cons (forceContext_keeps_no_candidate cause i hno)
        (by rw [hrules, hqueue, List.length_append, List.length_singleton]; omega)
      have hrest : xs.filterMap (fun j => ((forceContext cause s i).ctx j).map (closeRecord cause)) =
          xs.filterMap (fun j => (s.ctx j).map (closeRecord cause)) :=
        List.filterMap_congr fun j hj => by rw [forceContext_ctx_of_mem cause s hxs hj]
      refine ⟨by rw [hcounter, hclosed]; rfl, ?_⟩
      rw [hrecords, hrest, hqueue, List.filterMap_cons_some (by rw [hi]; rfl), List.append_assoc,
        List.singleton_append]

end

/-! ### The forced closure (R113) -/

section
variable (cause : Cause) (s : State)

/-- A forced closure leaves every context FREE. -/
theorem forcedClosure_ctx (i : Fin 8) : (forcedClosure cause s).ctx i = none := by
  rw [forcedClosure, foldl_forceContext_ctx]
  split
  · rfl
  · rename_i hi
    exact not_not.mp ((mem_onsetOrder s.engine.pool i).not.mp hi)

theorem forcedClosure_ptr : (forcedClosure cause s).engine.ptr = s.engine.ptr :=
  foldl_keeps (P := fun u => u.engine.ptr = s.engine.ptr) (fun u i hu => (forceContext_ptr cause u i).trans hu) _ rfl

/-- As many candidates stand in the onset order as in the slots. -/
theorem filter_measuresAt_onsetOrder_length :
    ((onsetOrder s.engine.pool).filter (measuresAt s)).length =
      (slots.filter (measuresAt s)).length := by
  rw [((onsetOrder_perm s.engine.pool).filter _).length_eq, List.filter_filter]
  refine congrArg List.length (List.filter_congr fun i _ => ?_)
  change (measuresAt s i && (s.ctx i).isSome) = measuresAt s i
  cases hi : s.ctx i <;> simp [measuresAt, hi]

theorem onsetOrder_length : (onsetOrder s.engine.pool).length ≤ 8 :=
  (onsetOrder_perm s.engine.pool).length_eq.trans_le (List.length_filter_le _ _)

end

/-- Settles O39: one close, then one slot of a forced closure after another in onset order. -/
theorem closuresReportTheContextsAndFreeThem : Obligations.ClosuresReportTheContextsAndFreeThem := by
  intro cause s closing
  refine ⟨fun i c => ⟨rfl, by rw [closeContext_ctx, if_pos rfl], fun j hj => by rw [closeContext_ctx, if_neg hj]⟩, ?_⟩
  intro incomplete taken t
  have htaken : taken = forceContext cause := by
    funext u i
    obtain ⟨hi, e⟩ | ⟨c, hi, hc, e⟩ | ⟨c, hi, hc, e⟩ := forceContext_cases cause u i
    · simp only [taken, hi, e]
    · simp only [taken, hi, if_pos hc, e]
      rfl
    · simp only [taken, hi, if_neg hc, e]
      rfl
  refine ⟨by rw [htaken]; rfl, forcedClosure_ctx cause s, forcedClosure_ptr cause s, fun hcounters => ?_,
    fun hno hroom => ?_⟩
  · have hbare : s.status.counters.bareOnsets ≤ max32 := by
      obtain ⟨-, -, -, -, -, -, -, -, -, -, hbare, -⟩ := hcounters
      exact hbare
    have hcount := foldl_forceContext_bareOnsets cause (onsetOrder_nodup s.engine.pool) hbare
    rw [filter_measuresAt_onsetOrder_length] at hcount
    exact hcount
  · have hlen := onsetOrder_length s
    exact foldl_forceContext_closes cause (onsetOrder_nodup s.engine.pool) hno (by omega)

end Sys2Proof.Proofs
end

section
/-! PROOFS. The context pool through the operations of the Context Engine: each leaves every context in the shape of its
state and no nonzero number held twice (R96, R102, R104 to R108). -/

namespace Sys2Proof.Proofs

open Sys2Proof Sys2Proof.Machine Sys2Proof.Safety

/-! ### What the condition depends on -/

/-- The pool and the event counter. -/
def poolView (s : State) : Vector (Option Context) 8 × Nat := (s.engine.pool, s.engine.counter)

/-- `t` has the pool and the event counter of `s`. -/
def SamePool (s t : State) : Prop := poolView t = poolView s

theorem SamePool.trans {s t u : State} (h : SamePool s t) (k : SamePool t u) : SamePool s u := Eq.trans k h

/-- An operation that touches neither. -/
theorem samePool_of_same {s t : State} (h : poolView t = poolView s := by rfl) : SamePool s t := h

theorem samePool_of_engine {s t : State} (h : t.engine = s.engine) : SamePool s t := by
  rw [SamePool, poolView, poolView, h]

theorem SamePool.fits {s t : State} (k : SamePool s t) (h : PoolFits s) : PoolFits t := by
  obtain ⟨hpool, hcounter⟩ := Prod.mk.inj k
  simpa only [PoolFits, State.ctx, hpool, hcounter] using h

/-- A state with the same pool and event counter. -/
theorem poolFits_congr {s t : State} (h : PoolFits s) (k : poolView t = poolView s := by rfl) : PoolFits t :=
  SamePool.fits k h

/-- What of a context depends on its state: its number, its phase and its S part (R96). -/
structure Identity where
  state : CtxState
  event : Nat
  phase : Option Phase
  sPart : Option SPart

def identity (c : Context) : Identity := ⟨c.state, c.event, c.phase, c.sPart⟩

theorem contextFits_congr {c d : Context} (h : ContextFits c) (k : identity d = identity c := by rfl) :
    ContextFits d := by
  obtain ⟨hstate, hevent, hphase, hs⟩ := Identity.mk.inj k
  simpa only [ContextFits, hstate, hevent, hphase, hs] using h

/-- A candidate in MEASURE holds no number. -/
theorem event_of_measure {c : Context} (h : ContextFits c) (hc : c.state = .measure) : c.event = 0 := by
  simp only [ContextFits, hc] at h
  obtain ⟨hevent, -⟩ := h
  exact hevent

/-- A context in OPEN or CODA holds a number. -/
theorem event_range_of_not_measure {c : Context} (h : ContextFits c) (hc : c.state ≠ .measure) :
    1 ≤ c.event ∧ c.event ≤ 65535 := by
  cases hstate : c.state with
  | measure => exact absurd hstate hc
  | open_ =>
    simp only [ContextFits, hstate] at h
    obtain ⟨hpos, htop, -⟩ := h
    exact ⟨hpos, htop⟩
  | coda =>
    simp only [ContextFits, hstate] at h
    obtain ⟨hpos, htop, -⟩ := h
    exact ⟨hpos, htop⟩

/-! ### One slot -/

section
variable {s : State} (h : PoolFits s)
include h

theorem poolFits_counter : s.engine.counter ≤ 65535 := h.1

theorem poolFits_ctx {i : Fin 8} {c : Context} (hc : s.ctx i = some c) : ContextFits c := by
  obtain ⟨-, hfits, -⟩ := h
  exact hfits i c hc

/-- A context of the right shape whose number no other slot holds. -/
theorem poolFits_setCtx_some {i : Fin 8} {c : Context} (hc : ContextFits c)
    (hnew : c.event ≠ 0 → ∀ j d, j ≠ i → s.ctx j = some d → d.event ≠ c.event) : PoolFits (s.setCtx i (some c)) := by
  obtain ⟨hcounter, hfits, hdistinct⟩ := h
  refine ⟨hcounter, fun j d hj => ?_, fun j k d e hj hk he hne => ?_⟩
  · rw [ctx_setCtx] at hj
    split at hj
    · cases hj
      exact hc
    · exact hfits j d hj
  · rw [ctx_setCtx] at hj hk
    split at hj <;> split at hk
    · rename_i hji hki
      rw [hji, hki]
    · rename_i hki
      cases hj
      exact absurd he.symm (hnew hne k e hki hk)
    · rename_i hji _
      cases hk
      exact absurd he (hnew (he ▸ hne) j d hji hj)
    · exact hdistinct j k d e hj hk he hne

theorem poolFits_setCtx_none (i : Fin 8) : PoolFits (s.setCtx i none) := by
  have hkept : ∀ {j c}, (s.setCtx i none).ctx j = some c → s.ctx j = some c := by
    intro j c hj
    rw [ctx_setCtx] at hj
    split at hj
    · cases hj
    · exact hj
  obtain ⟨hcounter, hfits, hdistinct⟩ := h
  exact ⟨hcounter, fun j c hj => hfits j c (hkept hj), fun j k c d hj hk => hdistinct j k c d (hkept hj) (hkept hk)⟩

/-- A context that changes in its place and keeps its number. -/
theorem poolFits_setCtx_same {i : Fin 8} {c d : Context} (hc : s.ctx i = some c) (hd : ContextFits d)
    (hevent : d.event = c.event) : PoolFits (s.setCtx i (some d)) := by
  refine poolFits_setCtx_some h hd fun hne j e hj he heq => ?_
  obtain ⟨-, -, hdistinct⟩ := h
  exact hj (hdistinct j i e c he hc (heq.trans hevent) (heq ▸ hne))

theorem poolFits_setCounter {n : Nat} (hn : n ≤ 65535) : PoolFits (s.setCounter n) := by
  obtain ⟨-, hfits, hdistinct⟩ := h
  exact ⟨hn, hfits, hdistinct⟩

theorem poolFits_admitRecord (r : Record) : PoolFits (admitRecord r s) :=
  (samePool_of_engine (admitRecord_engine s r)).fits h

/-- A number just taken is held by no context (R102). -/
theorem event_ne_fresh {j : Fin 8} {c : Context} (hc : s.ctx j = some c) : c.event ≠ s.freshNumber := by
  by_cases hstate : c.state = .measure
  · obtain ⟨hpos, -⟩ := freshNumber_range (poolFits_counter h)
    have hzero := event_of_measure (poolFits_ctx h hc) hstate
    omega
  · exact event_ne_freshNumber (poolFits_counter h) hc hstate

/-! ### Closing and bare onsets (R101, R113, R116) -/

theorem poolFits_closeContext (cause : Cause) (i : Fin 8) (c : Context) : PoolFits (closeContext cause i c s) :=
  poolFits_setCtx_none (poolFits_admitRecord h _) i

theorem poolFits_generateBare (slot time quality : Nat) (mask : PerBand Bool) (kind : Kind) (a b c : Bool) :
    PoolFits (generateBare slot time quality mask kind a b c s) :=
  poolFits_congr (poolFits_admitRecord (poolFits_setCounter h (freshNumber_range (poolFits_counter h)).2) _)

theorem poolFits_forceContext (cause : Cause) (i : Fin 8) : PoolFits (forceContext cause s i) := by
  obtain ⟨-, e⟩ | ⟨c, -, -, e⟩ | ⟨c, -, -, e⟩ := forceContext_cases cause s i <;> rw [e]
  · exact h
  · exact poolFits_setCtx_none (poolFits_generateBare h _ _ _ _ _ _ _ _) i
  · exact poolFits_closeContext h cause i c

theorem poolFits_forcedClosure (cause : Cause) : PoolFits (forcedClosure cause s) :=
  foldl_keeps (P := PoolFits) (fun _ i hu => poolFits_forceContext hu cause i) _ h

theorem poolFits_evict (i : Fin 8) : PoolFits (evict i s) := by
  unfold evict
  split
  · exact h
  · exact poolFits_congr (poolFits_closeContext h .evicted i _)

/-! ### Resolution (R104 to R108) -/

/-- An own event in the shape of its state, under a number that no context holds. -/
theorem poolFits_ownEvent {phase : Phase} {state : CtxState} (i : Fin 8) (c : Context)
    (hshape : (state = .open_ ∧ phase = .p) ∨ state = .coda) : PoolFits (ownEvent phase state i c s) := by
  obtain ⟨hpos, htop⟩ := freshNumber_range (poolFits_counter h)
  refine poolFits_admitRecord (poolFits_setCtx_some (poolFits_setCounter h htop) ?_ ?_) _
  · obtain ⟨rfl, rfl⟩ | rfl := hshape
    · exact ⟨hpos, htop, rfl, rfl⟩
    · exact ⟨hpos, htop, rfl⟩
  · exact fun _ j d _ hd => event_ne_fresh h hd

/-- A context that keeps the number and the phase of a parent has the shape of CODA (R104). -/
theorem contextFits_coda_of_parent {i j : Fin 8} {onset : Nat} {p d : Context} (hp : FitsParent s i onset j p)
    (hstate : d.state = .coda) (hevent : d.event = p.event) (hphase : d.phase = p.phase) : ContextFits d := by
  obtain ⟨hctx, -, hopen, hisP, -⟩ := hp
  obtain ⟨hpos, htop⟩ := event_range_of_not_measure (poolFits_ctx h hctx) hopen
  simp only [ContextFits, hstate, hevent, hphase, hisP]
  exact ⟨hpos, htop, rfl⟩

theorem poolFits_attachS {i j : Fin 8} {onset : Nat} {p : Context} (c : Context) (hp : FitsParent s i onset j p) :
    PoolFits (attachS i j c p s) := by
  refine poolFits_setCtx_none (poolFits_admitRecord (poolFits_setCtx_same h hp.ctx ?_ ?_) _) i
  · exact contextFits_coda_of_parent h hp rfl rfl rfl
  · rfl

theorem poolFits_absorb {j : Fin 8} {p : Context} (i : Fin 8) (c : Context) (hp : s.ctx j = some p) :
    PoolFits (absorb i j c p s) := by
  refine poolFits_setCtx_none (poolFits_setCtx_same h hp ?_ ?_) i
  · exact contextFits_congr (poolFits_ctx h hp)
  · rfl

theorem poolFits_complete (i : Fin 8) (c : Context) : PoolFits (complete i c s) := by
  obtain ⟨c', -, e | ⟨cls, -, e⟩ | ⟨j, p, hp, -, hparent, e⟩ | ⟨j, p, hp, -, e⟩⟩ := complete_cases i c s <;> rw [e]
  · exact poolFits_ownEvent h i c' (.inl ⟨rfl, rfl⟩)
  · exact poolFits_ownEvent h i c' (.inr rfl)
  · exact poolFits_attachS h c' (parentOf_fits hparent hp)
  · exact poolFits_absorb h i c' hp

end

/-! ### A context's turn (R98, R103, R109 to R115) -/

theorem updatePeaks_identity (r : Results) (c : Context) : identity (updatePeaks r c) = identity c := by
  unfold updatePeaks
  split <;> rfl

/-- The end of the S wait keeps the number, and brings an OPEN context to CODA in the shape of that state (R109). -/
theorem sWaitTest_fits (rules : Rules) (k : Nat) {c : Context} (h : ContextFits c) (hc : c.state = .open_) :
    ContextFits (sWaitTest rules k c) ∧ (sWaitTest rules k c).event = c.event := by
  unfold sWaitTest
  split
  · simp only [ContextFits, hc] at h
    obtain ⟨hpos, htop, hphase, -⟩ := h
    exact ⟨⟨hpos, htop, Option.isSome_of_eq_some hphase⟩, rfl⟩
  · exact ⟨h, rfl⟩

section
variable {s : State} (h : PoolFits s) {i : Fin 8} {c : Context} (hc : s.ctx i = some c)
include h hc

/-- A context that changes in its place without a change of its state, number, phase or S part. -/
theorem poolFits_setCtx_identity {d : Context} (k : identity d = identity c) : PoolFits (s.setCtx i (some d)) :=
  poolFits_setCtx_same h hc (contextFits_congr (poolFits_ctx h hc) k) (congrArg Identity.event k)

theorem poolFits_lifeTest {d : Context} (hd : ContextFits d) (hevent : d.event = c.event) :
    PoolFits (lifeTest i d s) := by
  unfold lifeTest
  split
  · exact poolFits_closeContext h .life i d
  · exact poolFits_setCtx_same h hc hd hevent

theorem poolFits_measureTurn (r : Results) : PoolFits (measureTurn r i c s) := by
  simp only [measureTurn]
  split
  · exact poolFits_complete h i _
  · refine poolFits_setCtx_identity h hc ?_
    split
    · split <;> rfl
    · rfl

theorem poolFits_openTurn (r : Results) (hstate : c.state = .open_) : PoolFits (openTurn r i c s) := by
  have hsame : identity (takeTriad r (updatePeaks r c)) = identity c := updatePeaks_identity r c
  obtain ⟨hfits, hevent⟩ := sWaitTest_fits s.rules r.index (contextFits_congr (poolFits_ctx h hc) hsame)
    ((congrArg Identity.state hsame).trans hstate)
  exact poolFits_lifeTest h hc hfits (hevent.trans (congrArg Identity.event hsame))

theorem poolFits_codaTurn (r : Results) : PoolFits (codaTurn r i c s) := by
  have hsame : identity (codaStep r (takeTriad r (updatePeaks r c))) = identity c := updatePeaks_identity r c
  simp only [codaTurn]
  split
  · exact poolFits_closeContext h .quiet i _
  · exact poolFits_lifeTest h hc (contextFits_congr (poolFits_ctx h hc) hsame) (congrArg Identity.event hsame)

end

theorem poolFits_contextTurn (r : Results) {s : State} (i : Fin 8) (h : PoolFits s) : PoolFits (contextTurn r s i) := by
  cases hi : s.ctx i with
  | none =>
    simp only [contextTurn, hi]
    exact h
  | some c =>
    cases hstate : c.state with
    | measure =>
      rw [contextTurn_measure hi hstate]
      exact poolFits_measureTurn h hi r
    | open_ =>
      rw [contextTurn_open hi hstate]
      exact poolFits_openTurn h hi r hstate
    | coda =>
      rw [contextTurn_coda hi hstate]
      exact poolFits_codaTurn h hi r

theorem poolFits_takeContexts (r : Results) {s : State} (h : PoolFits s) : PoolFits (takeContexts r s) :=
  foldl_keeps (fun _ i => poolFits_contextTurn r i) _ h

/-! ### A trigger (R84, R88, R99 to R101) -/

theorem foldl_sumEntry_identity (r : Rules) (es : List RingEntry) (c : Context) :
    identity (es.foldl (sumEntry r) c) = identity c := by
  induction es generalizing c with
  | nil => rfl
  | cons e es ih => exact ih (sumEntry r c e)

section
variable {s : State} (h : PoolFits s)
include h

/-- An allocated slot holds a candidate without a number, unless its window is already whole. -/
theorem poolFits_allocateAt (i : Fin 8) (t : Trigger) (f : Found) (time : Nat) :
    PoolFits (allocateAt i t f time s) := by
  have hfits : ContextFits (newContext t f time) := ⟨rfl, rfl, rfl⟩
  have hsame := foldl_sumEntry_identity s.rules (windowEntries s.rules (s.array.rings.get t.det.band) t f)
    (newContext t f time)
  have hset := poolFits_setCtx_some (s := { s with engine := { s.engine with ptr := i } }) (poolFits_congr h) (i := i)
    (contextFits_congr hfits hsame) (fun hne => absurd (congrArg Identity.event hsame) hne)
  simp only [allocateAt]
  split
  · exact poolFits_complete hset i _
  · exact hset

theorem poolFits_allocate (t : Trigger) (f : Found) (time : Nat) : PoolFits (allocate t f time s) := by
  unfold allocate
  split
  · exact poolFits_allocateAt h _ t f time
  · split
    · exact poolFits_allocateAt (poolFits_evict h _) _ t f time
    · exact poolFits_congr (poolFits_generateBare h 8 time f.quality _ _ f.truncated true false)

theorem poolFits_mergeInto (i : Fin 8) (b : Band) : PoolFits (mergeInto i b s) := by
  unfold mergeInto
  split
  · exact h
  · rename_i hi
    exact poolFits_setCtx_identity h hi rfl

theorem poolFits_takeTrigger (r : Results) (t : Trigger) : PoolFits (takeTrigger r s t) := by
  cases hmerge : mergeTarget s t.det.kind (searchOnset s t).onset with
  | some i =>
    rw [takeTrigger_merged r hmerge]
    exact poolFits_mergeInto h i _
  | none =>
    rw [takeTrigger_unmatched r hmerge]
    exact poolFits_allocate h t _ _

theorem poolFits_takeTriggers (r : Results) : PoolFits (takeTriggers r s) :=
  foldl_keeps (P := PoolFits) (fun _ t hu => poolFits_takeTrigger hu r t) _ h

end

/-! ### Swaps and reports (R149 to R154) -/

/-- A swap leaves the Context Engine as it is. -/
theorem swapWithReset_engine (s : State) : (swapWithReset s).engine = s.engine := by
  unfold swapWithReset bandReset
  dsimp only
  split <;> rfl

theorem poolFits_forcedSwap {s : State} (h : PoolFits s) : PoolFits (forcedSwap s) :=
  (samePool_of_engine (swapWithReset_engine (forcedClosure .reconfig s))).fits (poolFits_forcedClosure h _)

theorem poolFits_report (own : Bool) {s : State} (h : PoolFits s) : PoolFits (report own s) := by
  obtain e | ⟨-, ⟨-, e⟩ | ⟨_, _, -, -, e⟩ | ⟨_, -, -, e⟩⟩ := report_cases own s <;> rw [e]
  · exact h
  · exact poolFits_congr h
  · exact (samePool_of_engine (swapWithReset_engine s)).fits h
  · exact poolFits_forcedSwap h

/-- A commit executed takes no number and changes no context but by a forced swap. -/
theorem poolFits_startCommit (limit : Nat) {s : State} (h : PoolFits s) : PoolFits (startCommit limit s) := by
  obtain ⟨-, e | e⟩ | e | ⟨-, e | ⟨c, -, e⟩⟩ := startCommit_cases limit s <;> rw [e]
  · exact poolFits_congr h
  · exact poolFits_congr h
  · exact (samePool_of_engine (swapWithReset_engine s)).fits h
  · exact poolFits_forcedSwap h
  · exact poolFits_congr h

end Sys2Proof.Proofs
end

section
/-! PROOFS. The context pool through every row of the table: most rows leave the pool and the event counter as they are,
and the Context Engine's own rows, the swaps and the resets keep the pool in its shape (R96, R102). -/

namespace Sys2Proof.Proofs

open Sys2Proof Sys2Proof.Machine Sys2Proof.Safety

/-! ### Framing -/

theorem latchIf_engine (s : State) (b : Bool) (f : Flag) : (s.latchIf b f).engine = s.engine := by
  cases b <;> rfl

theorem setFramer_engine (p : Port) (f : Framer) (s : State) : (s.setFramer p f).engine = s.engine := by
  cases p <;> rfl

theorem applyScan_engine (p : Port) (a : Scan) (s : State) : (applyScan p a s).engine = s.engine := by
  rw [applyScan_eq, (sameOutsideRouting_routes p a.frames (tally p a s)).engine]
  simp only [tally, latchIf_engine, bump_engine, setFramer_engine]

theorem judgeHeld_engine (p : Port) (s : State) : (judgeHeld p s).engine = s.engine := by
  unfold judgeHeld
  split
  · exact applyScan_engine p _ s
  · rfl

theorem samePool_rxByte (p : Port) (b : Byte) (stop : StopBit) (was : Bool) (s : State) :
    EndsIn (SamePool s) (execRxByte p b stop was s) := by
  unfold execRxByte
  split
  · refine endsIn_next (samePool_of_engine ?_)
    rw [setFramer_engine, takeByte, applyScan_engine, judgeHeld_engine]
  · exact endsIn_next rfl

theorem samePool_byteTimeout (p : Port) (s : State) : EndsIn (SamePool s) (execByteTimeout p s) := by
  unfold execByteTimeout
  split
  · refine endsIn_next (samePool_of_engine ?_)
    simp only [abandonHeld]
    split <;> simp only [latch_engine, bump_engine, setFramer_engine]
  · exact endsIn_next rfl

/-! ### The Triad Assembler -/

theorem samePool_judgeAlignment (s : State) : SamePool s (judgeAlignment s) := by
  obtain ⟨_, _, _, e⟩ := judgeAlignment_touches s
  rw [e]
  rfl

theorem samePool_overlapCounted (comp : Comp) (start : Nat) (s : State) :
    SamePool s (overlapCounted comp start s) := by
  unfold overlapCounted
  split <;> rfl

theorem samePool_bridgeCounted (comp : Comp) (start : Nat) (s : State) : SamePool s (bridgeCounted comp start s) := by
  unfold bridgeCounted
  split <;> rfl

/-- A long gap sends the engine a notice, which it has yet to take. -/
theorem samePool_longGap (s : State) : SamePool s (longGap s) := rfl

theorem samePool_takeUsable (comp : Comp) (start : Nat) (xs : List Sample) (s : State) :
    SamePool s (takeUsable comp start xs s) := by
  have counted := samePool_overlapCounted comp start s
  have placed : ∀ u c, SamePool u (judgeAlignment (u.setComp comp c)) := fun u c => samePool_judgeAlignment _
  obtain ⟨c, -, e⟩ | e | ⟨c, -, e⟩ | e := takeUsable_cases comp start xs s <;> rw [e]
  · exact (counted.trans (samePool_bridgeCounted comp start _)).trans (placed _ c)
  · exact counted
  · exact (counted.trans (samePool_longGap _)).trans (placed _ c)
  · exact counted.trans (samePool_longGap _)

theorem samePool_takeCopy (c : SampleCopy) (s : State) : SamePool s (takeCopy c s) := by
  obtain e | e | ⟨stream, e⟩ := takeCopy_cases c s <;> rw [e]
  · rfl
  · rfl
  · exact samePool_takeUsable _ _ _ (restartStall stream s)

theorem samePool_sampleCopyTaken (s : State) : EndsIn (SamePool s) (execSampleCopyTaken s) := by
  unfold execSampleCopyTaken
  split
  · exact endsIn_next (samePool_takeCopy _ _)
  · exact endsIn_next rfl

theorem samePool_malformedNoticeTaken (s : State) : EndsIn (SamePool s) (execMalformedNoticeTaken s) := by
  unfold execMalformedNoticeTaken
  split
  · dsimp only
    split <;> exact endsIn_next rfl
  · exact endsIn_next rfl

theorem samePool_stallTimerExpiry (stream : Comp) (s : State) :
    EndsIn (SamePool s) (execStallTimerExpiry stream s) := by
  unfold execStallTimerExpiry
  split <;> exact endsIn_next rfl

theorem samePool_triadIssue (s : State) : EndsIn (SamePool s) (execTriadIssue s) := by
  unfold execTriadIssue
  split <;> exact endsIn_next rfl

/-! ### Filters, detectors, lines and timers -/

theorem samePool_filterTriad (s : State) : EndsIn (SamePool s) (execFilterTriad s) := by
  unfold execFilterTriad
  split
  · exact endsIn_next (samePool_of_engine (latchIf_engine _ _ _))
  · exact endsIn_next rfl

/-- Results join the engine's inbox, which the engine has yet to take. -/
theorem samePool_detectorTriad (s : State) : EndsIn (SamePool s) (execDetectorTriad s) := by
  unfold execDetectorTriad
  split
  · refine endsIn_next ?_
    rw [SamePool, poolView, latchIf_engine]
    rfl
  · exact endsIn_next rfl

theorem samePool_bankNotice (k : NoticeKind) (s : State) : SamePool s (bankNotice k s) := by
  unfold bankNotice
  split <;> rfl

theorem samePool_arrayNotice (k : NoticeKind) (s : State) : SamePool s (arrayNotice k s) := by
  unfold arrayNotice
  split <;> rfl

theorem samePool_upstreamFrameStart (s : State) : EndsIn (SamePool s) (execUpstreamFrameStart s) := by
  unfold execUpstreamFrameStart
  split <;> exact endsIn_next rfl

theorem samePool_upstreamFrameSent (s : State) : EndsIn (SamePool s) (execUpstreamFrameSent s) := by
  unfold execUpstreamFrameSent
  split <;> exact endsIn_next rfl

theorem samePool_egressChoice (s : State) : EndsIn (SamePool s) (execEgressChoice s) := by
  unfold execEgressChoice
  split
  · exact endsIn_next rfl
  · refine endsIn_next ?_
    unfold chooseFrame
    split <;> rfl

theorem samePool_noiseTimerExpiry (s : State) : EndsIn (SamePool s) (execNoiseTimerExpiry s) := by
  unfold execNoiseTimerExpiry
  split <;> exact endsIn_next rfl

/-! ### The command rows -/

theorem samePool_judgeTagged (tag code : Byte) (r : Result) (s : State) :
    SamePool s (judgeTagged tag code (refuse r) s) := by
  unfold judgeTagged
  split
  · rfl
  · split <;> rfl

theorem samePool_judgeUndecoded (payload : List Byte) (s : State) : SamePool s (judgeUndecoded payload s) := by
  unfold judgeUndecoded
  split
  · rfl
  · split
    · rfl
    · exact samePool_judgeTagged _ _ _ s
    · exact samePool_judgeTagged _ _ _ s

theorem samePool_commandUndecoded (payload : List Byte) (s : State) :
    EndsIn (SamePool s) (execCommandUndecoded payload s) := by
  unfold execCommandUndecoded
  split
  · by_cases hturn : s.cmd.inbox = [] ∨ s.cmd.inbox.head? = some payload
    · rw [takeFrame_ready payload s hturn]
      exact endsIn_next (samePool_judgeUndecoded payload _)
    · rw [takeFrame_none payload s hturn]
      exact endsIn_next rfl
  · exact endsIn_next rfl

/-- A command row whose execution keeps the pool in its shape; MALFORMED changes nothing. -/
theorem poolFits_command {α : Type} (code tag : Byte) (ps : List Byte) (args : Option α) {run : α → State → Answer}
    (hrun : ∀ a u, PoolFits u → PoolFits (run a u).state) {s : State} (h : PoolFits s) :
    EndsIn PoolFits (runCommand code tag ps (withForm args run) s) := by
  have hform : ∀ u, PoolFits u → PoolFits (withForm args run u).state := by
    intro u hu
    cases args with
    | none => exact hu
    | some a => exact hrun a u hu
  obtain e | ⟨u, hu, hcases⟩ := runCommand_cases code tag ps (withForm args run) s
  · exact e ▸ endsIn_next h
  · have taken : PoolFits u := by
      obtain rfl | rfl := hu
      · exact h
      · exact poolFits_congr h
    obtain ⟨-, e⟩ | ⟨-, e⟩ | ⟨-, e⟩ := hcases <;> rw [e]
    · exact endsIn_next taken
    · exact endsIn_next (poolFits_congr taken)
    · exact endsIn_next (poolFits_congr (hform u taken))

/-- A command that leaves the pool and the event counter alone. -/
theorem poolFits_plainCommand {α : Type} (code tag : Byte) (ps : List Byte) (args : Option α)
    {run : α → State → Answer} (hrun : ∀ a u, SamePool u (run a u).state) {s : State} (h : PoolFits s) :
    EndsIn PoolFits (runCommand code tag ps (withForm args run) s) :=
  poolFits_command _ _ _ _ (fun a u hu => (hrun a u).fits hu) h

theorem samePool_writeTable (a : WriteArgs) (s : State) : SamePool s (writeTable a s).state := by
  unfold writeTable
  split
  · rfl
  · split <;> rfl

theorem samePool_cancelCommit (s : State) : SamePool s (cancelCommit s).state := by
  unfold cancelCommit
  split <;> rfl

theorem samePool_guardMap (a : GuardArgs) (s : State) : SamePool s (guardMap a s).state := by
  unfold guardMap
  split
  · rfl
  · rfl
  · split <;> rfl
  · rfl

/-- A restart is sent to the engine, which has yet to take it. -/
theorem samePool_restartPicker (s : State) : SamePool s (restartPicker s).state := by
  unfold restartPicker
  split <;> rfl

theorem clampShadow_engine (s : State) : (clampShadow s).engine = s.engine := latchIf_engine _ _ _

theorem poolFits_commitTables (limit : Nat) {s : State} (h : PoolFits s) : PoolFits (commitTables limit s).state := by
  unfold commitTables
  split
  · exact h
  · split
    · exact h
    · split
      · exact h
      · dsimp only [done]
        exact poolFits_startCommit limit ((samePool_of_engine (clampShadow_engine s)).fits h)

/-! ### The rows that change the pool -/

theorem poolFits_resetWith (straps : BitVec 2) (pending : List Instr) : PoolFits (State.resetWith straps pending) := by
  have hfree : ∀ i, (State.resetWith straps pending).ctx i = none := ctx_reset
  exact ⟨Nat.zero_le _, fun i c hc => by simp [hfree] at hc, fun i j c d hc => by simp [hfree] at hc⟩

theorem poolFits_egressFrameSent (straps : BitVec 2) {s : State} (h : PoolFits s) :
    EndsIn PoolFits (execEgressFrameSent straps s) := by
  unfold execEgressFrameSent
  split
  · exact endsIn_next h
  · refine endsIn_next ?_
    unfold recordSent
    split
    · exact poolFits_resetWith _ _
    · split <;> exact poolFits_congr h

theorem poolFits_engineTriad {s : State} (h : PoolFits s) : EndsIn PoolFits (execEngineTriad s) := by
  unfold execEngineTriad
  split
  · rename_i r rest _ _
    have taken : PoolFits { s with
        engine := { s.engine with inbox := rest, notices := countTriad s.engine.notices } } := poolFits_congr h
    exact endsIn_next (poolFits_report _ (poolFits_takeTriggers (poolFits_takeContexts r taken) r))
  · exact endsIn_next h

theorem poolFits_engineNotice (k : NoticeKind) (cause : Cause) {s : State} (h : PoolFits s) :
    PoolFits (engineNotice k cause s) := by
  unfold engineNotice
  split
  · exact h
  · exact poolFits_report _ (poolFits_forcedClosure (poolFits_congr h) cause)

theorem poolFits_commitWaitExpiry {s : State} (h : PoolFits s) : EndsIn PoolFits (execCommitWaitExpiry s) := by
  unfold execCommitWaitExpiry
  split
  · split
    · exact endsIn_next h
    · split
      · exact endsIn_next (poolFits_forcedSwap h)
      · exact endsIn_next (poolFits_congr h)
  · exact endsIn_next h
  · exact endsIn_next h
  · exact endsIn_next h

/-! ### Every step -/

/-- A row that leaves the pool and the event counter alone. -/
theorem poolFits_endsIn {s : State} {o : Host.Outcome State Fault Refusal} (h : PoolFits s)
    (ho : EndsIn (SamePool s) o) : EndsIn PoolFits o :=
  ho.mono (fun _ k => k.fits h)

/-- Every row keeps the pool in its shape. -/
theorem exec_keeps_poolFits (c : Instr) {s : State} (h : PoolFits s) : EndsIn PoolFits (exec c s) := by
  cases c with
  | fullReset straps => exact endsIn_next (poolFits_resetWith _ _)
  | rxByte p b stop was => exact poolFits_endsIn h (samePool_rxByte p b stop was s)
  | frameReceived p => exact endsIn_next ((samePool_of_engine (judgeHeld_engine p s)).fits h)
  | byteTimeout p => exact poolFits_endsIn h (samePool_byteTimeout p s)
  | sampleCopyTaken => exact poolFits_endsIn h (samePool_sampleCopyTaken s)
  | malformedNoticeTaken => exact poolFits_endsIn h (samePool_malformedNoticeTaken s)
  | stallTimerExpiry stream => exact poolFits_endsIn h (samePool_stallTimerExpiry stream s)
  | triadIssue => exact poolFits_endsIn h (samePool_triadIssue s)
  | filterTriad => exact poolFits_endsIn h (samePool_filterTriad s)
  | detectorTriad => exact poolFits_endsIn h (samePool_detectorTriad s)
  | engineTriad => exact poolFits_engineTriad h
  | gapNoticeFilter => exact endsIn_next ((samePool_bankNotice _ s).fits h)
  | gapNoticeDetector => exact endsIn_next ((samePool_arrayNotice _ s).fits h)
  | gapNoticeEngine => exact endsIn_next (poolFits_engineNotice _ _ h)
  | restartFilter => exact endsIn_next ((samePool_bankNotice _ s).fits h)
  | restartDetector => exact endsIn_next ((samePool_arrayNotice _ s).fits h)
  | restartEngine => exact endsIn_next (poolFits_engineNotice _ _ h)
  | commitWaitExpiry => exact poolFits_commitWaitExpiry h
  | noiseTimerExpiry => exact poolFits_endsIn h (samePool_noiseTimerExpiry s)
  | upstreamFrameStart => exact poolFits_endsIn h (samePool_upstreamFrameStart s)
  | upstreamFrameSent => exact poolFits_endsIn h (samePool_upstreamFrameSent s)
  | egressChoice => exact poolFits_endsIn h (samePool_egressChoice s)
  | egressFrameSent straps => exact poolFits_egressFrameSent straps h
  | commandUndecoded payload => exact poolFits_endsIn h (samePool_commandUndecoded payload s)
  | tableWrite tag ps => exact poolFits_plainCommand _ _ _ _ samePool_writeTable h
  | tablesCommit tag ps => exact poolFits_command _ _ _ _ (fun limit _ => poolFits_commitTables limit) h
  | commitCancel tag ps => exact poolFits_plainCommand _ _ _ _ (fun _ => samePool_cancelCommit) h
  | mapGuard tag ps => exact poolFits_plainCommand _ _ _ _ samePool_guardMap h
  | pickerRestart tag ps => exact poolFits_plainCommand _ _ _ _ (fun _ => samePool_restartPicker) h
  | echo tag ps => exact poolFits_plainCommand _ _ _ _ (fun _ _ => samePool_of_same) h
  | statusRead tag ps => exact poolFits_plainCommand _ _ _ _ (fun _ _ => samePool_of_same) h
  | flagsClear tag ps => exact poolFits_plainCommand _ _ _ _ (fun _ _ => samePool_of_same) h
  | attentionMask tag ps => exact poolFits_plainCommand _ _ _ _ (fun _ _ => samePool_of_same) h
  | tableRead tag ps => exact poolFits_plainCommand _ _ _ _ (fun _ _ => samePool_of_same) h
  | egressMode tag ps => exact poolFits_plainCommand _ _ _ _ (fun _ _ => samePool_of_same) h
  | arrivalsFlush tag ps => exact poolFits_plainCommand _ _ _ _ (fun _ _ => samePool_of_same) h
  | reportInterval tag ps => exact poolFits_plainCommand _ _ _ _ (fun _ _ => samePool_of_same) h
  | partReset tag ps => exact poolFits_plainCommand _ _ _ _ (fun _ _ => samePool_of_same) h

/-- Settles O58: a number is taken only where no context holds it, and every other operation of the engine keeps a
context's number and the shape of its state. -/
theorem everyStepKeepsThePool : Obligations.EveryStepKeepsThePool := by
  intro s t h hstep
  unfold step at hstep
  split at hstep
  · cases hstep
    exact poolFits_congr h
  · rename_i c rest _
    obtain ⟨u, e, hu⟩ := exec_keeps_poolFits c (s := { s with pending := rest }) (poolFits_congr h)
    rw [e] at hstep
    cases hstep
    exact hu

end Sys2Proof.Proofs
end

section
/-! PROOFS. The Arrival Queue takes a generated record whole, in its short form or not at all, by the occupancy and the
watermark (R131, R133). -/

namespace Sys2Proof.Proofs

open Sys2Proof Sys2Proof.Machine Sys2Proof.Safety

/-- Below the watermark and the depth a record joins the tail whole. -/
theorem admitRecord_below (r : Record) {s : State} (hw : s.arrivals.records.length < s.rules.watermark)
    (hq : s.arrivals.records.length < 32) : admitRecord r s = s.enqueue r := by
  simp only [admitRecord, Config.arrivalDepth, if_neg (Nat.not_le.mpr hq), if_pos hw]

/-- From the watermark on, and below the depth, a SINGLE onset is counted and any other record joins in its short form. -/
theorem admitRecord_atWatermark (r : Record) {s : State} (hw : s.rules.watermark ≤ s.arrivals.records.length)
    (hq : s.arrivals.records.length < 32) :
    admitRecord r s = if r.isSingle then s.bump .recordsDropped 1 else s.enqueue r.shorten := by
  simp only [admitRecord, Config.arrivalDepth, if_neg (Nat.not_le.mpr hq), if_neg (Nat.not_lt.mpr hw)]

/-- At the depth a record is discarded and counted, and QUEUE_FULL latched. -/
theorem admitRecord_full (r : Record) {s : State} (hq : 32 ≤ s.arrivals.records.length) :
    admitRecord r s = (s.bump .recordsDropped 1).latch .queueFull :=
  if_pos hq

/-- Settles O41: the three ranges of the occupancy, and at the watermark the record's kind. -/
theorem recordIsAdmittedByTheOccupancy : Obligations.RecordIsAdmittedByTheOccupancy := by
  intro o x c s q w add
  refine ⟨fun hw hq r => admitRecord_below r hw hq, fun hw hq => ⟨?onset, ?second, ?close⟩,
    fun hq r => admitRecord_full r hq⟩
  case onset => exact admitRecord_atWatermark (.onset o) hw hq
  case second => exact admitRecord_atWatermark (.second x) hw hq
  case close => exact admitRecord_atWatermark (.close c) hw hq

end Sys2Proof.Proofs
end

section
/-! PROOFS. The setting commands: FLAGS_CLEAR, ATTENTION_MASK, EGRESS_MODE, ARRIVALS_FLUSH and REPORT_INTERVAL, each
judged by its form and answered with the state it writes (R137, R165 to R168, R183). -/

namespace Sys2Proof.Proofs

open Sys2Proof Sys2Proof.Machine Sys2Proof.Safety

/-! ### A command row that is judged now (R159 to R161) -/

/-- The row `c` carries a frame's tag, code and parameters, and comes to a run behind the reading of its form. -/
structure CommandRow {α : Type} (c : Instr) (tag code : Byte) (ps : List Byte) (args : Option α)
    (run : α → State → Answer) : Prop where
  payload : encodePayload c = some (tag :: code :: ps)
  exec_eq : ∀ s, exec c s = runCommand code tag ps (withForm args run) s

/-- The state once the oldest command frame has left the inbox. -/
def frameGone (s : State) : State := { s with cmd := { s.cmd with inbox := s.cmd.inbox.tail } }

section
variable {α : Type} {c : Instr} {tag code : Byte} {ps : List Byte} {args : Option α} {run : α → State → Answer}

/-- A row judged now leaves the state and the reply of its run. -/
theorem CommandRow.exec_answered (row : CommandRow c tag code ps args run) {s t : State} (ready : Ready c s)
    {result : Result} {data : List Byte}
    (hrun : withForm args run (frameGone s) = { state := frameGone t, result := result, data := data }) :
    exec c s = .next (answered tag code result data t) := by
  obtain ⟨hreset, hroom, hturn⟩ := ready
  rw [row.payload] at hturn
  have h := runCommand_ready code tag ps (withForm args run) s hreset hroom hturn
  rw [← frameGone, hrun] at h
  exact (row.exec_eq s).trans h

/-- A row judged now whose form is wrong is MALFORMED and changes nothing else. -/
theorem CommandRow.exec_malformed (row : CommandRow c tag code ps args run) {s : State} (ready : Ready c s)
    (hargs : args = none) : exec c s = .next (answered tag code .malformed [] s) :=
  row.exec_answered ready (by rw [hargs]; rfl)

/-- A row judged now whose form is right is answered as its run says. -/
theorem CommandRow.exec_run (row : CommandRow c tag code ps args run) {s t : State} (ready : Ready c s) {a : α}
    (hargs : args = some a) {result : Result} {data : List Byte}
    (hrun : run a (frameGone s) = { state := frameGone t, result := result, data := data }) :
    exec c s = .next (answered tag code result data t) :=
  row.exec_answered ready (by rw [hargs]; exact hrun)

end

/-! ### The rows of the setting commands -/

theorem commandRow_flagsClear (tag : Byte) (ps : List Byte) :
    CommandRow (.flagsClear tag ps) tag codeFlagsClear ps (readFlagsClear ps) (fun a s => clearStatus a.1 a.2 s) :=
  ⟨rfl, fun _ => rfl⟩

theorem commandRow_attentionMask (tag : Byte) (ps : List Byte) :
    CommandRow (.attentionMask tag ps) tag codeAttentionMask ps (readAttentionMask ps)
      (fun m s => done [] { s with status := { s.status with mask := m } }) :=
  ⟨rfl, fun _ => rfl⟩

theorem commandRow_egressMode (tag : Byte) (ps : List Byte) :
    CommandRow (.egressMode tag ps) tag codeEgressMode ps (readEgressMode ps)
      (fun m s => done [] { s with arrivals := { s.arrivals with mode := m } }) :=
  ⟨rfl, fun _ => rfl⟩

theorem commandRow_arrivalsFlush (tag : Byte) (ps : List Byte) :
    CommandRow (.arrivalsFlush tag ps) tag codeArrivalsFlush ps (readNone ps) (fun _ s => flushArrivals s) :=
  ⟨rfl, fun _ => rfl⟩

theorem commandRow_reportInterval (tag : Byte) (ps : List Byte) :
    CommandRow (.reportInterval tag ps) tag codeReportInterval ps (readReportInterval ps) setInterval :=
  ⟨rfl, fun _ => rfl⟩

/-! ### Flag masks (R165, R182) -/

theorem beNat_three (a b c : Byte) : beNat [a, b, c] = a.toNat * 65536 + b.toNat * 256 + c.toNat := by
  rw [beNat_cons, beNat_two]
  simp only [List.length_cons, List.length_nil]
  omega

/-- The three bytes of a mask, most significant first. -/
theorem maskBytes_eq (m : BitVec 20) : maskBytes m =
    [BitVec.ofNat 8 (m.toNat / 65536), BitVec.ofNat 8 (m.toNat / 256), BitVec.ofNat 8 m.toNat] := by
  simp [maskBytes, beBytes]

/-- Each flag has its bit among the mask's twenty (R182). -/
theorem bit_lt_twenty (f : Flag) : f.bit < 20 := by
  cases f <;> decide

/-- Clearing takes away the flags the mask names and no other. -/
theorem flagSet_clearFlags (flags mask : BitVec 20) (f : Flag) :
    flagSet (clearFlags flags mask) f = (flagSet flags f && !flagSet mask f) := by
  simp [flagSet, clearFlags, bit_lt_twenty f]

/-! ### The forms of the setting commands (R183) -/

theorem readAttentionMask_admitted {a b c : Byte} (h : a.toNat * 65536 + b.toNat * 256 + c.toNat < 2 ^ 20) :
    readAttentionMask [a, b, c] = some (BitVec.ofNat 20 (a.toNat * 65536 + b.toNat * 256 + c.toNat)) := by
  simp only [readAttentionMask, readMask, beNat_three, if_pos h]

theorem readAttentionMask_malformed {a b c : Byte} (h : 2 ^ 20 ≤ a.toNat * 65536 + b.toNat * 256 + c.toNat) :
    readAttentionMask [a, b, c] = none := by
  simp only [readAttentionMask, readMask, beNat_three, if_neg (Nat.not_lt.mpr h)]

/-- FLAGS_CLEAR takes the masks of ATTENTION_MASK, with an option behind them. -/
theorem readFlagsClear_eq (a b c o : Byte) : readFlagsClear [a, b, c, o] =
    (readAttentionMask [a, b, c]).bind (fun m => if o.toNat ≤ 1 then some (m, decide (o.toNat = 1)) else none) := by
  simp only [readFlagsClear, readAttentionMask]
  cases readMask [a, b, c] <;> rfl

theorem readFlagsClear_malformed {a b c o : Byte}
    (h : 2 ^ 20 ≤ a.toNat * 65536 + b.toNat * 256 + c.toNat ∨ 2 ≤ o.toNat) : readFlagsClear [a, b, c, o] = none := by
  rw [readFlagsClear_eq]
  rcases h with hmask | hopt
  · rw [readAttentionMask_malformed hmask, Option.bind_none]
  · simp [Nat.not_le.mpr hopt]

theorem readFlagsClear_admitted {a b c o : Byte} (hmask : a.toNat * 65536 + b.toNat * 256 + c.toNat < 2 ^ 20)
    (hopt : o.toNat ≤ 1) : readFlagsClear [a, b, c, o] =
      some (BitVec.ofNat 20 (a.toNat * 65536 + b.toNat * 256 + c.toNat), decide (o = 1)) := by
  have hone : o.toNat = 1 ↔ o = 1 := BitVec.toNat_inj (y := 1)
  simp only [readFlagsClear_eq, readAttentionMask_admitted hmask, Option.bind_some, if_pos hopt, hone]

theorem readEgressMode_malformed {a : Byte} (h : 2 ≤ a.toNat) : readEgressMode [a] = none := by
  simp only [readEgressMode, readByteUpTo, if_neg (Nat.not_le.mpr h)]

theorem readEgressMode_admitted {a : Byte} (h : a.toNat ≤ 1) :
    readEgressMode [a] = some (if a = 0 then .hold else .emit) := by
  have hzero : a.toNat = 0 ↔ a = 0 := BitVec.toNat_inj (y := 0)
  simp only [readEgressMode, readByteUpTo, if_pos h, hzero, apply_ite some]

theorem readReportInterval_malformed {a b : Byte} (h : 3600 < a.toNat * 256 + b.toNat) :
    readReportInterval [a, b] = none := by
  simp only [readReportInterval, readWordUpTo, beNat_two, if_neg (Nat.not_le.mpr h)]

theorem readReportInterval_admitted {a b : Byte} (h : a.toNat * 256 + b.toNat ≤ 3600) :
    readReportInterval [a, b] = some (a.toNat * 256 + b.toNat) := by
  simp only [readReportInterval, readWordUpTo, beNat_two, if_pos h]

/-! ### What FLAGS_CLEAR writes (R165) -/

/-- FLAGS_CLEAR answers the flags as they stood, clears those of its mask, and zeroes the counters with its option on. -/
theorem clearStatus_frameGone (mask : BitVec 20) (o : Byte) (s : State) :
    clearStatus mask (decide (o = 1)) (frameGone s) =
      done [BitVec.ofNat 8 (s.status.flags.toNat / 65536), BitVec.ofNat 8 (s.status.flags.toNat / 256),
          BitVec.ofNat 8 s.status.flags.toNat]
        (frameGone { s with status := { s.status with
          flags := clearFlags s.status.flags mask
          counters := if o = 1 then ⟨0, 0, 0, 0, 0, 0, 0, 0, 0, 0, 0, 0⟩ else s.status.counters } }) := by
  simp only [clearStatus, maskBytes_eq, decide_eq_true_eq]
  rfl

/-- Settles O51, command by command: its form decides between MALFORMED and its own effect. -/
theorem settingCommandsWriteTheirState : Obligations.SettingCommandsWriteTheirState := by
  intro tag a b c o s mask word
  refine ⟨fun ready => ⟨fun h => ?flagsMalformed, fun hmask hopt => ?flagsCleared⟩,
    fun ready => ⟨fun h => ?maskMalformed, fun h => ?maskSet⟩,
    fun ready => ⟨fun h => ?modeMalformed, fun h => ?modeSet⟩,
    fun ready => ?flushed,
    fun ready => ⟨fun h => ?intervalMalformed, fun h => ?intervalSet⟩⟩
  case flagsMalformed => exact (commandRow_flagsClear tag _).exec_malformed ready (readFlagsClear_malformed h)
  case flagsCleared =>
    exact ⟨clearFlags s.status.flags (BitVec.ofNat 20 mask), fun f => by simp [flagSet_clearFlags],
      (commandRow_flagsClear tag _).exec_run ready (readFlagsClear_admitted hmask hopt)
        (clearStatus_frameGone _ o s)⟩
  case maskMalformed => exact (commandRow_attentionMask tag _).exec_malformed ready (readAttentionMask_malformed h)
  case maskSet => exact (commandRow_attentionMask tag _).exec_run ready (readAttentionMask_admitted h) rfl
  case modeMalformed => exact (commandRow_egressMode tag _).exec_malformed ready (readEgressMode_malformed h)
  case modeSet => exact (commandRow_egressMode tag _).exec_run ready (readEgressMode_admitted h) rfl
  case flushed => exact (commandRow_arrivalsFlush tag _).exec_run ready rfl rfl
  case intervalMalformed =>
    exact (commandRow_reportInterval tag _).exec_malformed ready (readReportInterval_malformed h)
  case intervalSet => exact (commandRow_reportInterval tag _).exec_run ready (readReportInterval_admitted h) rfl

end Sys2Proof.Proofs
end

section
/-! PROOFS. The swap that waits, taken at the engine's report or at the wait's expiry (R150, R151, R153, R154). -/

namespace Sys2Proof.Proofs

open Sys2Proof Sys2Proof.Machine Sys2Proof.Safety

/-! ### The wait's expiry (R154) -/

theorem execCommitWaitExpiry_quietWait {limit elapsed : Nat} {s : State}
    (h : s.tables.commit = .quietWait limit elapsed) :
    execCommitWaitExpiry s =
      if elapsed < limit then .next s
      else if s.inProgress = 0 then .next (forcedSwap s)
      else .next (s.setCommit (.forceDue s.engine.notices.length)) := by
  simp only [execCommitWaitExpiry, h, enterForceDue_eq]

/-- Outside QUIET_WAIT there is no expiry. -/
theorem execCommitWaitExpiry_stopped {s : State} (h : ∀ l e, s.tables.commit ≠ .quietWait l e) :
    execCommitWaitExpiry s = .next s := by
  unfold execCommitWaitExpiry
  split
  · rename_i l e hc
    exact absurd hc (h l e)
  · rfl
  · rfl
  · rfl

/-! ### The engine's report (R121) -/

theorem poolEmpty_eq_false_iff (s : State) : s.poolEmpty = false ↔ ∃ i, s.ctx i ≠ none := by
  rw [← Bool.not_eq_true, poolEmpty_iff, not_forall]

section
variable {s : State} (own : Bool) (idle : s.inProgress = 0)
include idle

theorem report_nextBoundary (h : s.tables.commit = .nextBoundary) : report own s = swapPlain s := by
  simp only [report, idle, h, ne_eq, not_true_eq_false, if_false]

theorem report_quietWait {limit elapsed : Nat} (h : s.tables.commit = .quietWait limit elapsed) :
    report own s = if s.poolEmpty then swapWithReset s else s := by
  simp only [report, idle, h, ne_eq, not_true_eq_false, if_false]

theorem report_forceDue {earlier : Nat} (h : s.tables.commit = .forceDue earlier) :
    report own s = if own = false ∧ earlier < s.engine.notices.length then s else forcedSwap s := by
  simp only [report, idle, h, ne_eq, not_true_eq_false, if_false, cameInForceDue, Bool.and_eq_true,
    Bool.not_eq_true', decide_eq_true_eq]

end

/-- With a context held no report takes the swap that waits for a quiet point. -/
theorem report_of_held {s : State} (own : Bool) {limit elapsed : Nat} (h : s.tables.commit = .quietWait limit elapsed)
    (held : ∃ i, s.ctx i ≠ none) : report own s = s := by
  by_cases idle : s.inProgress = 0
  · rw [report_quietWait own idle h, (poolEmpty_eq_false_iff s).mpr held, if_neg Bool.false_ne_true]
  · exact report_quiet own (.inr idle)

/-- Settles O47, commit state by commit state. -/
theorem reportsAndExpiryTakeTheWaitingSwap : Obligations.ReportsAndExpiryTakeTheWaitingSwap := by
  intro limit elapsed earlier own s
  refine ⟨fun hc => ⟨fun early => ?_, fun passed idle => ?_, fun passed busy => ?_, fun idle free => ?_,
      report_of_held own hc⟩,
    execCommitWaitExpiry_stopped, fun busy => report_quiet own (.inr busy), fun hc => report_quiet own (.inl hc),
    fun hc idle => report_nextBoundary own idle hc, fun hc idle => ⟨fun due => ?_, fun hown waits => ?_⟩⟩
  · exact (execCommitWaitExpiry_quietWait hc).trans (if_pos early)
  · exact (execCommitWaitExpiry_quietWait hc).trans ((if_neg (Nat.not_lt.mpr passed)).trans (if_pos idle))
  · exact (execCommitWaitExpiry_quietWait hc).trans ((if_neg (Nat.not_lt.mpr passed)).trans (if_neg busy))
  · rw [report_quietWait own idle hc, if_pos ((poolEmpty_iff s).mpr free)]
  · rw [report_forceDue own idle hc, if_neg]
    rintro ⟨hown, waits⟩
    rcases due with htrue | hcame
    · rw [hown] at htrue
      cases htrue
    · exact absurd waits (Nat.not_lt.mpr hcame)
  · rw [report_forceDue own idle hc, if_pos ⟨hown, waits⟩]

end Sys2Proof.Proofs
end

section
/-! PROOFS. TABLE_WRITE, TABLE_READ, COMMIT_CANCEL and MAP_GUARD, each judged by its form and by the commit state or the
guard (R142, R143, R155, R156). -/

namespace Sys2Proof.Proofs

open Sys2Proof Sys2Proof.Machine Sys2Proof.Safety

/-! ### The rows of the Table Bank -/

theorem commandRow_tableWrite (tag : Byte) (ps : List Byte) :
    CommandRow (.tableWrite tag ps) tag codeTableWrite ps (readTableWrite ps) writeTable :=
  ⟨rfl, fun _ => rfl⟩

theorem commandRow_tableRead (tag : Byte) (ps : List Byte) :
    CommandRow (.tableRead tag ps) tag codeTableRead ps (readTableRead ps) (fun a s => done (tableBytes a s) s) :=
  ⟨rfl, fun _ => rfl⟩

theorem commandRow_tablesCommit (tag : Byte) (ps : List Byte) :
    CommandRow (.tablesCommit tag ps) tag codeTablesCommit ps (readTablesCommit ps) commitTables :=
  ⟨rfl, fun _ => rfl⟩

theorem commandRow_commitCancel (tag : Byte) (ps : List Byte) :
    CommandRow (.commitCancel tag ps) tag codeCommitCancel ps (readNone ps) (fun _ s => cancelCommit s) :=
  ⟨rfl, fun _ => rfl⟩

theorem commandRow_mapGuard (tag : Byte) (ps : List Byte) :
    CommandRow (.mapGuard tag ps) tag codeMapGuard ps (readMapGuard ps) guardMap :=
  ⟨rfl, fun _ => rfl⟩

/-! ### COMMIT_CANCEL (R155) -/

theorem cancelCommit_nothing {s : State} (h : s.tables.commit = .none) : cancelCommit s = refuse .nothing s :=
  if_pos h

theorem cancelCommit_pending {s : State} (h : s.tables.commit ≠ .none) : cancelCommit s = done [] (s.setCommit .none) :=
  if_neg h

/-! ### MAP_GUARD (R156) -/

theorem readMapGuard_malformed {op code : Byte} (h : code = 0 ∨ 2 ≤ op.toNat) : readMapGuard [op, code] = none := by
  rw [readMapGuard, if_neg]
  rintro ⟨hop, hcode⟩
  exact h.elim hcode (fun hop' => by omega)

theorem readMapGuard_close {code : Byte} (h : code ≠ 0) : readMapGuard [0, code] = some ⟨false, code⟩ :=
  if_pos ⟨by decide, h⟩

theorem readMapGuard_open {code : Byte} (h : code ≠ 0) : readMapGuard [1, code] = some ⟨true, code⟩ :=
  if_pos ⟨by decide, h⟩

section
variable {code : Byte} {s : State}

theorem guardMap_close_open (h : s.tables.guard = none) :
    guardMap ⟨false, code⟩ s = done [] (s.setGuard (some code)) := by
  simp only [guardMap, h]

theorem guardMap_close_closed (h : s.tables.guard ≠ none) : guardMap ⟨false, code⟩ s = refuse .busy s := by
  obtain ⟨stored, hstored⟩ := Option.ne_none_iff_exists'.mp h
  simp only [guardMap, hstored]

theorem guardMap_open_open (h : s.tables.guard = none) : guardMap ⟨true, code⟩ s = refuse .nothing s := by
  simp only [guardMap, h]

theorem guardMap_open_closed (h : s.tables.guard = some code) :
    guardMap ⟨true, code⟩ s = done [] (s.setGuard none) := by
  simp only [guardMap, h, if_true]

theorem guardMap_open_other {stored : Byte} (h : s.tables.guard = some stored) (hne : stored ≠ code) :
    guardMap ⟨true, code⟩ s = refuse .locked s := by
  simp only [guardMap, h, if_neg hne.symm]

end

/-- Settles O48, by the commit state and by the operation and the guard. -/
theorem cancelAndGuardAnswerByTheirState : Obligations.CancelAndGuardAnswerByTheirState := by
  intro tag op code s
  refine ⟨fun ready => ⟨fun h => ?nothing, fun h => ?cancelled⟩, fun ready => ?guard⟩
  case nothing => exact (commandRow_commitCancel tag _).exec_run ready rfl (cancelCommit_nothing h)
  case cancelled => exact (commandRow_commitCancel tag _).exec_run ready rfl (cancelCommit_pending h)
  case guard =>
    intro run set
    have row := commandRow_mapGuard tag [op, code]
    refine ⟨fun h => row.exec_malformed ready (readMapGuard_malformed h), ?_, ?_, ?_, ?_, ?_⟩
    · rintro hcode rfl hopen
      exact row.exec_run ready (readMapGuard_close hcode) (guardMap_close_open hopen)
    · rintro hcode rfl hclosed
      exact row.exec_run ready (readMapGuard_close hcode) (guardMap_close_closed hclosed)
    · rintro hcode rfl hstored
      exact row.exec_run ready (readMapGuard_open hcode) (guardMap_open_closed hstored)
    · rintro stored hcode rfl hstored hne
      exact row.exec_run ready (readMapGuard_open hcode) (guardMap_open_other hstored hne)
    · rintro hcode rfl hopen
      exact row.exec_run ready (readMapGuard_open hcode) (guardMap_open_open hopen)

/-! ### TABLE_WRITE (R142) -/

theorem lt_four_of_ofNumber {n : Nat} {t : Table} (h : Table.ofNumber n = some t) : n < 4 := by
  by_contra hn
  obtain ⟨m, rfl⟩ := Nat.exists_eq_add_of_le' (Nat.not_lt.mp hn)
  cases h

/-- The right form of TABLE_WRITE: a table's number, an offset, and 1 to 128 bytes that the table has room for there. -/
theorem readTableWrite_eq_some_iff {ps : List Byte} {a : WriteArgs} :
    readTableWrite ps = some a ↔ ∃ num off, ps = num :: off :: a.data ∧ Table.ofNumber num.toNat = some a.table ∧
      off.toNat = a.offset ∧ 1 ≤ a.data.length ∧ a.data.length ≤ 128 ∧ a.offset + a.data.length ≤ a.table.size := by
  constructor
  · intro h
    unfold readTableWrite at h
    split at h
    · rename_i num off data
      split at h
      · cases h
      · rename_i t ht
        split at h
        · rename_i hfits
          cases h
          exact ⟨num, off, rfl, ht, rfl, hfits⟩
        · cases h
    · cases h
  · obtain ⟨t, offset, data⟩ := a
    rintro ⟨num, off, rfl, ht, rfl, hfits⟩
    simp only [readTableWrite, ht, if_pos hfits]

theorem readTableWrite_malformed {ps : List Byte}
    (h : ps.length < 2 ∨ 4 ≤ (ps.getD 0 0).toNat ∨ ps.drop 2 = [] ∨ 128 < (ps.drop 2).length ∨
      ∀ t, Table.ofNumber (ps.getD 0 0).toNat = some t → t.size < (ps.getD 1 0).toNat + (ps.drop 2).length) :
    readTableWrite ps = none := by
  rw [Option.eq_none_iff_forall_ne_some]
  intro a ha
  obtain ⟨num, off, rfl, ht, hoff, hmin, hmax, hend⟩ := readTableWrite_eq_some_iff.mp ha
  simp only [List.getD_cons_zero, List.getD_cons_succ, List.drop_succ_cons, List.drop_zero, List.length_cons, hoff] at h
  obtain hshort | hnum | hempty | hlong | hpast := h
  · omega
  · exact absurd (lt_four_of_ofNumber ht) (Nat.not_lt.mpr hnum)
  · rw [hempty] at hmin
    exact absurd hmin (by decide)
  · omega
  · exact absurd (hpast _ ht) (Nat.not_lt.mpr hend)

/-- With data behind the first two bytes a list has those two bytes. -/
theorem eq_cons_cons_drop {ps : List Byte} (h : 1 ≤ (ps.drop 2).length) :
    ps = ps.getD 0 0 :: ps.getD 1 0 :: ps.drop 2 := by
  match ps, h with
  | _ :: _ :: _ :: _, _ => rfl

theorem readTableWrite_admitted {ps : List Byte} {t : Table} (ht : Table.ofNumber (ps.getD 0 0).toNat = some t)
    (hmin : 1 ≤ (ps.drop 2).length) (hmax : (ps.drop 2).length ≤ 128)
    (hend : (ps.getD 1 0).toNat + (ps.drop 2).length ≤ t.size) :
    readTableWrite ps = some ⟨t, (ps.getD 1 0).toNat, ps.drop 2⟩ :=
  readTableWrite_eq_some_iff.mpr ⟨_, _, eq_cons_cons_drop hmin, ht, rfl, hmin, hmax, hend⟩

section
variable {a : WriteArgs} {s : State}

theorem writeTable_busy (h : s.tables.commit ≠ .none) : writeTable a s = refuse .busy s :=
  if_pos h

variable (idle : s.tables.commit = .none)
include idle

theorem writeTable_locked (ht : a.table = .chan) (hguard : s.tables.guard ≠ none) :
    writeTable a s = refuse .locked s := by
  rw [writeTable, if_neg (not_not.mpr idle), if_pos ⟨ht, Option.isSome_iff_ne_none.mpr hguard⟩]

theorem writeTable_done (h : a.table ≠ .chan ∨ s.tables.guard = none) :
    writeTable a s = done [] { s with
      tables := { s.tables with
        shadow := s.tables.shadow.set a.table (writeAt (s.tables.shadow.get a.table) a.offset a.data)
        written := s.tables.written.set a.table true } } := by
  rw [writeTable, if_neg (not_not.mpr idle), if_neg]
  rintro ⟨ht, hguard⟩
  exact h.elim (absurd ht) (Option.isSome_iff_ne_none.mp hguard)

end

/-! ### TABLE_READ (R143) -/

/-- The right form of TABLE_READ: a bank, a table's number, an offset and a length of 0 to 128. -/
theorem readTableRead_eq_some_iff {ps : List Byte} {a : ReadArgs} :
    readTableRead ps = some a ↔ ∃ bank num off len, ps = [bank, num, off, len] ∧ bank.toNat ≤ 1 ∧
      Table.ofNumber num.toNat = some a.table ∧ len.toNat ≤ 128 ∧ a.shadow = decide (bank.toNat = 1) ∧
      a.offset = off.toNat ∧ a.length = len.toNat := by
  constructor
  · intro h
    unfold readTableRead at h
    split at h
    · rename_i bank num off len
      split at h
      · cases h
      · rename_i t ht
        split at h
        · rename_i hlimits
          obtain ⟨hbank, hlen⟩ := hlimits
          cases h
          exact ⟨bank, num, off, len, rfl, hbank, ht, hlen, rfl, rfl, rfl⟩
        · cases h
    · cases h
  · obtain ⟨shadow, t, offset, length⟩ := a
    rintro ⟨bank, num, off, len, rfl, hbank, ht, hlen, rfl, rfl, rfl⟩
    simp only [readTableRead, ht, if_pos (And.intro hbank hlen)]

theorem readTableRead_malformed {ps : List Byte}
    (h : ps.length ≠ 4 ∨ 2 ≤ (ps.getD 0 0).toNat ∨ 4 ≤ (ps.getD 1 0).toNat ∨ 128 < (ps.getD 3 0).toNat) :
    readTableRead ps = none := by
  rw [Option.eq_none_iff_forall_ne_some]
  intro a ha
  obtain ⟨bank, num, off, len, rfl, hbank, ht, hlen, -⟩ := readTableRead_eq_some_iff.mp ha
  have hnum := lt_four_of_ofNumber ht
  simp only [List.getD_cons_zero, List.getD_cons_succ, List.length_cons, List.length_nil] at h
  omega

theorem tableBytes_length (a : ReadArgs) (s : State) : (tableBytes a s).length = a.length := by
  unfold tableBytes
  split
  · exact readAt_length _ _ _
  · split
    · exact readAt_length _ _ _
    · exact List.length_replicate

/-- Past its end an image answers 0. -/
theorem readAt_getD_sized {img : List Byte} {size : Nat} (hsize : img.length = size) (off len i : Nat) (h : i < len) :
    (readAt img off len).getD i 0 = if off + i < size then img.getD (off + i) 0 else 0 := by
  rw [readAt_getD img off len i h]
  split
  · rfl
  · exact List.getD_eq_default _ _ (by omega)

/-- The bytes answered are those of the image asked for, 0 past its end and for an invalid active image. -/
theorem tableBytes_getD (a : ReadArgs) {s : State} (sized : TablesSized s) (i : Nat) (h : i < a.length) :
    (tableBytes a s).getD i 0 =
      if a.offset + i < a.table.size then
        if a.shadow = true then (s.tables.shadow.get a.table).getD (a.offset + i) 0
        else if s.tables.valid.get a.table = true then (s.tables.active.get a.table).getD (a.offset + i) 0 else 0
      else 0 := by
  obtain ⟨hshadow, hactive⟩ := sized
  unfold tableBytes
  by_cases hbank : a.shadow = true
  · simp only [if_pos hbank, readAt_getD_sized (length_of_imagesSized hshadow a.table) _ _ _ h]
  · by_cases hvalid : s.tables.valid.get a.table = true
    · simp only [if_neg hbank, if_pos hvalid, readAt_getD_sized (length_of_imagesSized hactive a.table) _ _ _ h]
    · simp only [if_neg hbank, if_neg hvalid, ite_self, List.getD_replicate _ h]

/-- Settles O43: the form decides first, then the commit state and the guard; a write and a read are said byte by
byte. -/
theorem shadowTablesAreWrittenAndRead : Obligations.ShadowTablesAreWrittenAndRead := by
  intro tag ps s sized
  refine ⟨fun ready => ⟨fun h => ?malformedWrite, fun t ht hmin hmax hend => ?write⟩,
    fun ready => ⟨fun h => ?malformedRead, ?read⟩⟩
  case malformedWrite => exact (commandRow_tableWrite tag ps).exec_malformed ready (readTableWrite_malformed h)
  case write =>
    have row := commandRow_tableWrite tag ps
    have form := readTableWrite_admitted ht hmin hmax hend
    have hsize := length_of_imagesSized sized.1 t
    have hfits : (ps.getD 1 0).toNat + (ps.drop 2).length ≤ (s.tables.shadow.get t).length := hsize ▸ hend
    refine ⟨fun busy => row.exec_run ready form (writeTable_busy busy),
      fun idle hchan hguard => row.exec_run ready form (writeTable_locked idle hchan hguard),
      fun idle hfree => ⟨writeAt (s.tables.shadow.get t) (ps.getD 1 0).toNat (ps.drop 2), s.tables.shadow.set t _,
        s.tables.written.set t true, row.exec_run ready form (writeTable_done idle hfree),
        fun u => PerTable.get_set _ t u _, fun u => PerTable.get_set _ t u _,
        (writeAt_length _ _ _ hfits).trans hsize, fun i _ => writeAt_getD _ _ _ hfits i⟩⟩
  case malformedRead => exact (commandRow_tableRead tag ps).exec_malformed ready (readTableRead_malformed h)
  case read =>
    rintro bank num off len t rfl hbank ht hlen
    have form : readTableRead [bank, num, off, len] = some ⟨decide (bank.toNat = 1), t, off.toNat, len.toNat⟩ :=
      readTableRead_eq_some_iff.mpr ⟨bank, num, off, len, rfl, hbank, ht, hlen, rfl, rfl, rfl⟩
    refine ⟨tableBytes _ s, (commandRow_tableRead tag _).exec_run ready form rfl, tableBytes_length _ s,
      fun i hi => ?_⟩
    have hone : bank.toNat = 1 ↔ bank = 1 := BitVec.toNat_inj (y := 1)
    simpa only [decide_eq_true_eq, hone] using
      tableBytes_getD ⟨decide (bank.toNat = 1), t, off.toNat, len.toNat⟩ sized i hi

end Sys2Proof.Proofs
end

section
/-! PROOFS. TABLES_COMMIT: refused in its order, or the shadow clamped and the swap taken or left to wait; none of it
depends on the command frames that wait (R144, R145, R148, R151, R153, R154). -/

namespace Sys2Proof.Proofs

open Sys2Proof Sys2Proof.Machine Sys2Proof.Safety

/-! ### The frame taken before or after -/

theorem admitRecord_frameGone (r : Record) (s : State) :
    admitRecord r (frameGone s) = frameGone (admitRecord r s) := by
  have harrivals : (frameGone s).arrivals = s.arrivals := rfl
  have hrules : (frameGone s).rules = s.rules := rfl
  simp only [admitRecord, harrivals, hrules, apply_ite frameGone]
  rfl

theorem closeContext_frameGone (cause : Cause) (i : Fin 8) (c : Context) (s : State) :
    closeContext cause i c (frameGone s) = frameGone (closeContext cause i c s) := by
  rw [closeContext, admitRecord_frameGone]
  rfl

theorem generateBare_frameGone (slot time quality : Nat) (mask : PerBand Bool) (kind : Kind) (a b c : Bool)
    (s : State) : generateBare slot time quality mask kind a b c (frameGone s) =
      frameGone (generateBare slot time quality mask kind a b c s) :=
  congrArg (·.bump .bareOnsets 1) (admitRecord_frameGone _ (s.setCounter s.freshNumber))

theorem forceContext_frameGone (cause : Cause) (s : State) (i : Fin 8) :
    forceContext cause (frameGone s) i = frameGone (forceContext cause s i) := by
  obtain ⟨hi, e⟩ | ⟨c, hi, hc, e⟩ | ⟨c, hi, hc, e⟩ := forceContext_cases cause s i <;> rw [e]
  · exact forceContext_free cause hi
  · rw [forceContext_measure cause (s := frameGone s) hi hc, generateBare_frameGone]
    rfl
  · rw [forceContext_closes cause (s := frameGone s) hi hc, closeContext_frameGone]

theorem forcedClosure_frameGone (cause : Cause) (s : State) :
    forcedClosure cause (frameGone s) = frameGone (forcedClosure cause s) :=
  List.foldl_hom frameGone (forceContext_frameGone cause)

theorem swapWithReset_frameGone (s : State) : swapWithReset (frameGone s) = frameGone (swapWithReset s) := by
  have hdirty : tableDirty (frameGone s) .chan = tableDirty s .chan := rfl
  cases h : tableDirty s .chan
  · rw [swapWithReset_of_mapKept h, swapWithReset_of_mapKept (hdirty.trans h)]
    rfl
  · rw [swapWithReset_of_mapChanged h, swapWithReset_of_mapChanged (hdirty.trans h)]
    rfl

theorem forcedSwap_frameGone (s : State) : forcedSwap (frameGone s) = frameGone (forcedSwap s) := by
  rw [forcedSwap, forcedClosure_frameGone, swapWithReset_frameGone]
  rfl

/-! ### A commit started (R148) -/

theorem quietPoint_iff (s : State) : s.quietPoint = true ↔ (∀ i, s.ctx i = none) ∧ s.inProgress = 0 := by
  rw [State.quietPoint, Bool.and_eq_true, poolEmpty_iff, decide_eq_true_eq]

theorem needsBandReset_iff (s : State) :
    needsBandReset s = true ↔ tableDirty s .band = true ∨ tableDirty s .chan = true := by
  rw [needsBandReset, Bool.or_eq_true]

section
variable (limit : Nat) {s : State}

theorem commitOutcome_boundary (h : needsBandReset s = false) : commitOutcome s = .boundary := by
  simp only [commitOutcome, h, Bool.false_eq_true, if_false]

theorem commitOutcome_immediate (h : needsBandReset s = true)
    (quiet : s.tables.picker = .disarmed ∨ s.quietPoint = true) :
    commitOutcome s = .immediate := by
  simp only [commitOutcome, h, if_true, if_pos quiet]

theorem commitOutcome_quietWait (h : needsBandReset s = true)
    (quiet : ¬ (s.tables.picker = .disarmed ∨ s.quietPoint = true)) :
    commitOutcome s = .quietWait := by
  simp only [commitOutcome, h, if_true, if_neg quiet]

theorem startCommit_boundary (h : commitOutcome s = .boundary) :
    startCommit limit s = if s.inProgress = 0 then swapPlain s else s.setCommit .nextBoundary := by
  simp only [startCommit, h]

theorem startCommit_immediate (h : commitOutcome s = .immediate) : startCommit limit s = swapWithReset s := by
  simp only [startCommit, h]

theorem startCommit_quietWait (h : commitOutcome s = .quietWait) :
    startCommit limit s =
      if limit ≠ 0 then s.setCommit (.quietWait (limit * 1000) 0)
      else if s.inProgress = 0 then forcedSwap s
      else s.setCommit (.forceDue s.engine.notices.length) := by
  simp only [startCommit, h, enterForceDue_eq]

end

theorem startCommit_frameGone (limit : Nat) (s : State) :
    startCommit limit (frameGone s) = frameGone (startCommit limit s) := by
  have houtcome : commitOutcome (frameGone s) = commitOutcome s := rfl
  cases h : commitOutcome s <;> have h' := houtcome.trans h
  · rw [startCommit_boundary limit h, startCommit_boundary limit h', apply_ite frameGone]
    rfl
  · rw [startCommit_immediate limit h, startCommit_immediate limit h', swapWithReset_frameGone]
  · rw [startCommit_quietWait limit h, startCommit_quietWait limit h', forcedSwap_frameGone, apply_ite frameGone,
      apply_ite frameGone]
    rfl

/-! ### The shadow clamped (R145) -/

theorem clampShadow_frameGone (s : State) : clampShadow (frameGone s) = frameGone (clampShadow s) := by
  have htables : (frameGone s).tables = s.tables := rfl
  simp only [clampShadow, htables]
  generalize clampAll s.tables.shadow = c
  cases decide (c.2 ≠ 0) <;> rfl

@[simp] theorem clampShadow_tables (s : State) :
    (clampShadow s).tables = { s.tables with shadow := (clampAll s.tables.shadow).1 } := by
  obtain ⟨flags, e⟩ := clampShadow_eq s
  rw [e]

theorem clampShadow_inProgress (s : State) : (clampShadow s).inProgress = s.inProgress := by
  obtain ⟨flags, e⟩ := clampShadow_eq s
  simp only [State.inProgress, e]

theorem clampShadow_ctx (s : State) (i : Fin 8) : (clampShadow s).ctx i = s.ctx i := by
  rw [State.ctx, clampShadow_engine, State.ctx]

/-- Bit n of the dirty set is the table of number n (R183). -/
theorem dirtyByte_getLsbD (s : State) {t : Table} {n : Nat} (h : Table.ofNumber n = some t) :
    (dirtyByte s).getLsbD n = tableDirty s t := by
  rw [dirtyByte, getLsbD_ofNat_bitsToNat _ (by simp)]
  match n, h with
  | 0, rfl => rfl
  | 1, rfl => rfl
  | 2, rfl => rfl
  | 3, rfl => rfl

theorem dirtyByte_lt (s : State) : (dirtyByte s).toNat < 16 := by
  rw [dirtyByte, BitVec.toNat_ofNat]
  exact (Nat.mod_le _ _).trans_lt (bitsToNat_lt [_, _, _, _])

/-! ### The judgement (R144) -/

theorem readTablesCommit_malformed {hi lo : Byte} (h : 600 < hi.toNat * 256 + lo.toNat) :
    readTablesCommit [hi, lo] = none := by
  simp only [readTablesCommit, readWordUpTo, beNat_two, if_neg (Nat.not_le.mpr h)]

theorem readTablesCommit_admitted {hi lo : Byte} (h : hi.toNat * 256 + lo.toNat ≤ 600) :
    readTablesCommit [hi, lo] = some (hi.toNat * 256 + lo.toNat) := by
  simp only [readTablesCommit, readWordUpTo, beNat_two, if_pos h]

theorem full_iff (p : PerTable Bool) : p.full = true ↔ p = ⟨true, true, true, true⟩ := by
  obtain ⟨chan, band, prof, rules⟩ := p
  simp [PerTable.full, and_assoc]

section
variable (limit : Nat) {s : State}

theorem commitTables_busy (h : s.tables.commit ≠ .none) : commitTables limit s = refuse .busy s :=
  if_pos h

variable (idle : s.tables.commit = .none)
include idle

theorem commitTables_unwritten (h : s.tables.written ≠ ⟨true, true, true, true⟩) :
    commitTables limit s = refuse .unwritten s := by
  rw [commitTables, if_neg (not_not.mpr idle), if_pos (by rwa [← Bool.not_eq_true, full_iff])]

variable (written : s.tables.written = ⟨true, true, true, true⟩)
include written

theorem commitTables_duplicateId (h : duplicateIds s.tables.shadow.chan = true) :
    commitTables limit s = refuse .duplicateId s := by
  simp only [commitTables, idle, (full_iff _).mpr written, h, ne_eq, not_true_eq_false, Bool.true_eq_false, if_false,
    if_true]

/-- A commit that is not refused answers by the clamped tables, and starts with them. -/
theorem commitTables_started (h : duplicateIds s.tables.shadow.chan = false) :
    commitTables limit s =
      done [BitVec.ofNat 8 (clampCount s), dirtyByte (clampShadow s), (commitOutcome (clampShadow s)).code]
        (startCommit limit (clampShadow s)) := by
  simp only [commitTables, idle, (full_iff _).mpr written, h, ne_eq, not_true_eq_false, Bool.true_eq_false,
    Bool.false_eq_true, if_false]

end

theorem clampCount_frameGone (s : State) : clampCount (frameGone s) = (clampAll s.tables.shadow).2 :=
  congrArg (fun t : TableBank => (clampAll t.shadow).2) (rfl : (frameGone s).tables = s.tables)

theorem dirtyByte_frameGone (s : State) : dirtyByte (frameGone s) = dirtyByte s := rfl

theorem commitOutcome_frameGone (s : State) : commitOutcome (frameGone s) = commitOutcome s := rfl

/-- The reply and the next state of a commit that is not refused. -/
theorem exec_tablesCommit_started {tag hi lo : Byte} {s : State} (ready : Ready (.tablesCommit tag [hi, lo]) s)
    (hlimit : hi.toNat * 256 + lo.toNat ≤ 600) (idle : s.tables.commit = .none)
    (written : s.tables.written = ⟨true, true, true, true⟩) (distinct : duplicateIds s.tables.shadow.chan = false) :
    exec (.tablesCommit tag [hi, lo]) s = .next (answered tag codeTablesCommit .done
      [BitVec.ofNat 8 (clampAll s.tables.shadow).2, dirtyByte (clampShadow s), (commitOutcome (clampShadow s)).code]
      (startCommit (hi.toNat * 256 + lo.toNat) (clampShadow s))) := by
  refine (commandRow_tablesCommit tag [hi, lo]).exec_run ready (readTablesCommit_admitted hlimit) ?_
  rw [commitTables_started _ (s := frameGone s) idle written distinct, clampShadow_frameGone, startCommit_frameGone,
    clampCount_frameGone, dirtyByte_frameGone, commitOutcome_frameGone, done]

/-- Settles O45: the refusals in their order, then the outcome by the dirty set, the picker state, the quiet point and
the limit. -/
theorem commitIsCheckedClampedAndStarted : Obligations.CommitIsCheckedClampedAndStarted := by
  intro tag hi lo s ready limit run u
  have hu : clampShadow s = u := rfl
  clear_value u
  intro dirty reply wait allWritten
  have row := commandRow_tablesCommit tag [hi, lo]
  refine ⟨fun h => row.exec_malformed ready (readTablesCommit_malformed h),
    fun h busy => row.exec_run ready (readTablesCommit_admitted h) (commitTables_busy limit busy),
    fun h idle unwritten =>
      row.exec_run ready (readTablesCommit_admitted h) (commitTables_unwritten limit (s := frameGone s) idle unwritten),
    fun h idle written same => row.exec_run ready (readTablesCommit_admitted h)
      (commitTables_duplicateId limit (s := frameGone s) idle written same),
    fun h idle written distinct => ?started⟩
  case started =>
    have hvalid : u.tables.valid = s.tables.valid := by rw [← hu, clampShadow_tables]
    have hactive : u.tables.active = s.tables.active := by rw [← hu, clampShadow_tables]
    have hengine : u.engine = s.engine := by rw [← hu, clampShadow_engine]
    have hdirty : ∀ t, tableDirty u t = true ↔ dirty t := fun t => by
      rw [tableDirty_eq_true_iff, hvalid, hactive]
    have needsIff : needsBandReset u = true ↔ dirty .band ∨ dirty .chan :=
      (needsBandReset_iff u).trans (or_congr (hdirty .band) (hdirty .chan))
    have idleIff : u.inProgress = 0 ↔ s.inProgress = 0 := by rw [← hu, clampShadow_inProgress]
    have quietIff : (u.tables.picker = .disarmed ∨ u.quietPoint = true) ↔
        (s.tables.picker = .disarmed ∨ ((∀ i, s.ctx i = none) ∧ s.inProgress = 0)) := by
      simp only [← hu, quietPoint_iff, clampShadow_inProgress, clampShadow_tables, clampShadow_ctx]
    have replied : ∀ {outcome v}, commitOutcome u = outcome → startCommit limit u = v → reply outcome.code v := by
      rintro _ _ rfl rfl
      exact ⟨dirtyByte u, fun t n hn => by rw [dirtyByte_getLsbD u hn, hdirty], dirtyByte_lt u,
        hu ▸ exec_tablesCommit_started ready h idle written distinct⟩
    refine ⟨fun band chan => ?boundary, fun changed => ?reset⟩
    case boundary =>
      have outcome : commitOutcome u = .boundary :=
        commitOutcome_boundary (Bool.eq_false_iff.mpr (needsIff.not.mpr (not_or.mpr ⟨band, chan⟩)))
      have started := startCommit_boundary limit outcome
      exact ⟨fun free => replied outcome (started.trans (if_pos (idleIff.mpr free))),
        fun busy => replied outcome (started.trans (if_neg (idleIff.not.mpr busy)))⟩
    case reset =>
      have needs := needsIff.mpr changed
      refine ⟨fun quiet => ?immediate, fun running held => ?quietWait⟩
      case immediate =>
        have outcome := commitOutcome_immediate needs (quietIff.mpr quiet)
        exact replied outcome (startCommit_immediate limit outcome)
      case quietWait =>
        have notQuiet : ¬ (s.tables.picker = .disarmed ∨ ((∀ i, s.ctx i = none) ∧ s.inProgress = 0)) := by
          rintro (disarmed | ⟨free, hidle⟩)
          · rw [running] at disarmed
            cases disarmed
          · exact held.elim (fun ⟨i, hi⟩ => hi (free i)) (fun busy => busy hidle)
        have outcome := commitOutcome_quietWait needs (quietIff.not.mpr notQuiet)
        have started := startCommit_quietWait limit outcome
        refine ⟨fun waits => replied outcome ?_, fun now free => replied outcome ?_,
          fun now busy => replied outcome ?_⟩
        · exact started.trans (if_pos (Nat.one_le_iff_ne_zero.mp waits))
        · exact started.trans ((if_neg (not_not.mpr now)).trans (if_pos (idleIff.mpr free)))
        · refine started.trans ((if_neg (not_not.mpr now)).trans ((if_neg (idleIff.not.mpr busy)).trans ?_))
          rw [hengine]
          rfl

end Sys2Proof.Proofs
end

section
/-! PROOFS. Clamping said exactly for one field, the Channel Map and the Band Table: the values taken, the bytes that
stay, the count of the fields that changed, and images in range left alone (R145, R146, R183, R185). -/

namespace Sys2Proof.Proofs

open Sys2Proof Sys2Proof.Machine Sys2Proof.Safety

/-! ### Values clamped (R145) -/

/-- A value outside its range takes the nearer end. -/
def nearer (lo hi v : Nat) : Nat := if v < lo then lo else if hi < v then hi else v

/-- A value outside its range takes one stated value. -/
def orElse (lo hi other v : Nat) : Nat := if v < lo ∨ hi < v then other else v

theorem nearer_le {lo hi : Nat} (h : lo ≤ hi) (v : Nat) : nearer lo hi v ≤ hi := by
  unfold nearer
  split
  · exact h
  · split <;> omega

/-! ### Entries that differ (R183) -/

/-- How many entries of two lists differ. -/
def changed (xs ys : List Nat) : Nat := ((xs.zip ys).filter (fun x => decide (x.1 ≠ x.2))).length

theorem changed_nil : changed [] [] = 0 := rfl

theorem changed_cons (x y : Nat) (xs ys : List Nat) :
    changed (x :: xs) (y :: ys) = (if x = y then 0 else 1) + changed xs ys := by
  by_cases h : x = y
  · simp [changed, h]
  · simp [changed, h, Nat.add_comm]

theorem changed_append {xs ys : List Nat} (h : xs.length = ys.length) (xs' ys' : List Nat) :
    changed (xs ++ xs') (ys ++ ys') = changed xs ys + changed xs' ys' := by
  rw [changed, List.zip_append h, List.filter_append, List.length_append]
  rfl

theorem changed_le (xs ys : List Nat) : changed xs ys ≤ xs.length := by
  refine (List.length_filter_le _ _).trans ?_
  rw [List.length_zip]
  exact Nat.min_le_left _ _

/-! ### One field (R145) -/

/-- `d` is `c` with the field of `len` bytes at `off` set to `v`, counted when that changes it; its image has `size`
bytes. -/
structure FieldSet (size off len v : Nat) (c d : Clamped) : Prop extends SameOutsideField off len c.img d.img where
  size : d.img.length = size
  value : fieldAt d.img off len = v
  count : d.count = c.count + if fieldAt c.img off len = v then 0 else 1

section
variable {size off len : Nat} {c : Clamped} (hs : c.img.length = size)
include hs

/-- A field left as it is. -/
theorem fieldSet_self : FieldSet size off len (fieldAt c.img off len) c c :=
  ⟨⟨rfl, fun _ _ => rfl⟩, hs, rfl, by rw [if_pos rfl, Nat.add_zero]⟩

variable (h : off + len ≤ size)
include h

/-- A field rewritten with another value. -/
theorem fieldSet_writeAt {v : Nat} (hv : v < 256 ^ len) (hne : fieldAt c.img off len ≠ v) :
    FieldSet size off len v c ⟨writeAt c.img off (beBytes len v), c.count + 1⟩ := by
  subst hs
  have hfits : off + (beBytes len v).length ≤ c.img.length := by rwa [beBytes_length]
  have hlen := writeAt_length c.img off (beBytes len v) hfits
  refine ⟨⟨hlen, fun i hi => ?_⟩, hlen, fieldAt_writeAt_self _ _ _ _ h hv, by rw [if_neg hne]⟩
  rw [writeAt_getD _ _ _ hfits, if_neg (by rw [beBytes_length]; omega)]

/-- A clamp sets its field to the value that its range gives. -/
theorem clampField_sets {lo hi below above : Nat} (hbelow : lo ≤ below) (habove : above ≤ hi)
    (hb : below < 256 ^ len) (ha : above < 256 ^ len) :
    FieldSet size off len
      (if fieldAt c.img off len < lo then below else if hi < fieldAt c.img off len then above
        else fieldAt c.img off len) c (clampField off len lo hi below above c) := by
  obtain ⟨h1, h2, e⟩ | ⟨h1, e⟩ | ⟨h1, h2, e⟩ := clampField_cases off len lo hi below above c <;> rw [e]
  · rw [if_neg (Nat.not_lt.mpr h1), if_neg (Nat.not_lt.mpr h2)]
    exact fieldSet_self hs
  · rw [if_pos h1]
    exact fieldSet_writeAt hs h hb (by omega)
  · rw [if_neg (Nat.not_lt.mpr h1), if_pos h2]
    exact fieldSet_writeAt hs h ha (by omega)

end

theorem clampNearer_sets (off len lo hi : Nat) {size : Nat} (c : Clamped) (hs : c.img.length = size)
    (h : off + len ≤ size) (hlo : lo < 256 ^ len) (hhi : hi < 256 ^ len) :
    FieldSet size off len (nearer lo hi (fieldAt c.img off len)) c (clampNearer off len lo hi c) :=
  clampField_sets hs h (le_refl lo) (le_refl hi) hlo hhi

theorem clampTo_sets (off len lo hi v : Nat) {size : Nat} (c : Clamped) (hs : c.img.length = size)
    (h : off + len ≤ size) (hlo : lo ≤ v) (hhi : v ≤ hi) (hv : v < 256 ^ len) :
    FieldSet size off len (orElse lo hi v (fieldAt c.img off len)) c (clampTo off len lo hi v c) := by
  have e : ∀ x, orElse lo hi v x = if x < lo then v else if hi < x then v else x := fun x => by
    unfold orElse
    by_cases hx : x < lo
    · rw [if_pos hx, if_pos (.inl hx)]
    · simp only [hx, false_or, if_false]
  rw [e]
  exact clampField_sets hs h hlo hhi hv hv

section
variable {off len lo hi : Nat} {c : Clamped} (hlo : lo ≤ fieldAt c.img off len) (hhi : fieldAt c.img off len ≤ hi)
include hlo hhi

/-- A field in its range stays, and is not counted. -/
theorem clampField_of_inRange (below above : Nat) : clampField off len lo hi below above c = c := by
  simp only [clampField, if_neg (Nat.not_lt.mpr hlo), if_neg (Nat.not_lt.mpr hhi)]

theorem clampNearer_of_inRange : clampNearer off len lo hi c = c :=
  clampField_of_inRange hlo hhi lo hi

theorem clampTo_of_inRange {v : Nat} : clampTo off len lo hi v c = c :=
  clampField_of_inRange hlo hhi v v

end

/-! ### The Channel Map (R146) -/

/-- The six fields of the Channel Map that are clamped. -/
def mapFields (m : ChannelMap) : List Nat :=
  [m.rate, m.stall, m.bridge, m.streams.z.clip, m.streams.n.clip, m.streams.e.clip]

/-- A stream with its clip level clamped. -/
def clampedStream (x : StreamCfg) : StreamCfg := { x with clip := nearer 1 8388607 x.clip }

/-- A Channel Map clamped. -/
def clampedMap (m : ChannelMap) : ChannelMap :=
  { m with
    rate := orElse 0 6 3 m.rate
    stall := nearer 100 10000 m.stall
    bridge := orElse 0 16 16 m.bridge
    streams := ⟨clampedStream m.streams.z, clampedStream m.streams.n, clampedStream m.streams.e⟩ }

theorem clampChannelMap_exact {img : List Byte} (h : img.length = 32) :
    readChannelMap (clampChannelMap img).img = clampedMap (readChannelMap img) ∧
      (∀ i, i ∈ [4, 5, 6, 10, 11, 15, 16] ∨ 20 ≤ i → (clampChannelMap img).img.getD i 0 = img.getD i 0) ∧
      (clampChannelMap img).count =
        changed (mapFields (readChannelMap img)) (mapFields (readChannelMap (clampChannelMap img).img)) := by
  unfold clampChannelMap
  have s1 := clampTo_sets 0 1 0 6 3 ⟨img, 0⟩ h (by norm_num) (by norm_num) (by norm_num) (by norm_num)
  generalize clampTo 0 1 0 6 3 ⟨img, 0⟩ = c1 at *
  have s2 := clampNearer_sets 1 2 100 10000 c1 s1.size (by norm_num) (by norm_num) (by norm_num)
  generalize clampNearer 1 2 100 10000 c1 = c2 at *
  have s3 := clampTo_sets 3 1 0 16 16 c2 s2.size (by norm_num) (by norm_num) (by norm_num) (by norm_num)
  generalize clampTo 3 1 0 16 16 c2 = c3 at *
  have s4 := clampNearer_sets 7 3 1 8388607 c3 s3.size (by norm_num) (by norm_num) (by norm_num)
  generalize clampNearer 7 3 1 8388607 c3 = c4 at *
  have s5 := clampNearer_sets 12 3 1 8388607 c4 s4.size (by norm_num) (by norm_num) (by norm_num)
  generalize clampNearer 12 3 1 8388607 c4 = c5 at *
  have s6 := clampNearer_sets 17 3 1 8388607 c5 s5.size (by norm_num) (by norm_num) (by norm_num)
  generalize clampNearer 17 3 1 8388607 c5 = c6 at *
  have bytes : ∀ i, i ∈ [4, 5, 6, 10, 11, 15, 16] ∨ 20 ≤ i → c6.img.getD i 0 = img.getD i 0 := by
    intro i hi
    simp only [List.mem_cons, List.not_mem_nil, or_false] at hi
    rw [s6.getD i (by omega), s5.getD i (by omega), s4.getD i (by omega), s3.getD i (by omega), s2.getD i (by omega),
      s1.getD i (by omega)]
  refine ⟨?_, bytes, ?_⟩
  · simp (disch := omega) only [readChannelMap, readStream, clampedMap, clampedStream, s6.value, s6.fieldAt, s5.value,
      s5.fieldAt, s4.value, s4.fieldAt, s3.value, s3.fieldAt, s2.value, s2.fieldAt, s1.value, s1.fieldAt]
    rw [bytes 5 (by simp), bytes 10 (by simp), bytes 15 (by simp)]
  · simp only [mapFields, changed_cons, changed_nil, s6.count, s5.count, s4.count, s3.count, s2.count, s1.count,
      Nat.zero_add, Nat.add_zero, Nat.add_assoc]
    simp (disch := omega) only [readChannelMap, readStream, s6.value, s6.fieldAt, s5.value,
      s5.fieldAt, s4.value, s4.fieldAt, s3.value, s3.fieldAt, s2.value, s2.fieldAt, s1.value, s1.fieldAt]

theorem clampChannelMap_of_inRange {img : List Byte} (h : MapInRange (readChannelMap img)) :
    clampChannelMap img = ⟨img, 0⟩ := by
  simp only [MapInRange, readChannelMap, readStream] at h
  obtain ⟨rate, stallLow, stallHigh, bridge, zLow, zHigh, nLow, nHigh, eLow, eHigh⟩ := h
  simp (disch := omega) only [clampChannelMap, clampTo_of_inRange, clampNearer_of_inRange]

/-! ### The Band Table (R146) -/

/-- A byte with its 5-bit shift clamped. -/
def lowerShift (b : Byte) : Byte := if b.toNat % 32 = 31 then b - 1 else b

theorem toNat_lowerShift (b : Byte) : (lowerShift b).toNat = if b.toNat % 32 = 31 then b.toNat - 1 else b.toNat := by
  unfold lowerShift
  split
  · bv_omega
  · rfl

/-- A shift of 31 becomes 30. -/
theorem lowerShift_shift (b : Byte) : (lowerShift b).toNat % 32 = orElse 0 30 30 (b.toNat % 32) := by
  rw [toNat_lowerShift, orElse]
  split <;> split <;> omega

/-- The bits above the shift stay. -/
theorem lowerShift_getLsbD (b : Byte) {k : Nat} (hk : 5 ≤ k) : (lowerShift b).getLsbD k = b.getLsbD k := by
  obtain ⟨j, rfl⟩ := Nat.exists_eq_add_of_le hk
  have hhigh : (lowerShift b).toNat / 2 ^ 5 = b.toNat / 2 ^ 5 := by
    rw [toNat_lowerShift]
    split <;> omega
  rw [BitVec.getLsbD, BitVec.getLsbD, Nat.add_comm, ← Nat.testBit_div_two_pow, hhigh, Nat.testBit_div_two_pow]

/-- The shift in a byte of the Band Table. -/
def shiftAt (img : List Byte) (off : Nat) : Nat := (img.getD off 0).toNat % 32

/-- A shift's clamp sets its byte, counted when that changes the shift, and leaves every other byte. -/
theorem clampShift_sets (off : Nat) (c : Clamped) (h : off < c.img.length) :
    (∀ i, (clampShift off c).img.getD i 0 = if i = off then lowerShift (c.img.getD i 0) else c.img.getD i 0) ∧
      (clampShift off c).count =
        c.count + if shiftAt c.img off = shiftAt (clampShift off c).img off then 0 else 1 := by
  have bytes : ∀ i, (clampShift off c).img.getD i 0 =
      if i = off then lowerShift (c.img.getD i 0) else c.img.getD i 0 := by
    intro i
    by_cases hi : i = off
    · subst hi
      rw [if_pos rfl, lowerShift]
      simp only [clampShift]
      split
      · rw [writeAt_getD _ _ _ (by simpa using h), if_pos (by simp), Nat.sub_self, List.getD_cons_zero]
      · rfl
    · rw [if_neg hi, (clampShift_getD off c h i).1 hi]
  refine ⟨bytes, ?_⟩
  rw [shiftAt, shiftAt, bytes, if_pos rfl, lowerShift_shift, orElse]
  have hlt := Nat.mod_lt (c.img.getD off 0).toNat (show 32 > 0 by decide)
  by_cases h31 : (c.img.getD off 0).toNat % 32 = 31
  · simp only [clampShift, h31, if_true]
    rfl
  · have hin : ¬ ((c.img.getD off 0).toNat % 32 < 0 ∨ 30 < (c.img.getD off 0).toNat % 32) := by omega
    rw [clampShift, if_neg h31, if_neg hin, if_pos rfl, Nat.add_zero]

theorem clampShift_of_le {off : Nat} {c : Clamped} (h : (c.img.getD off 0).toNat % 32 ≤ 30) : clampShift off c = c := by
  simp only [clampShift]
  rw [if_neg (by omega)]

/-- One shift after another clamped: each of their bytes once, and each shift that changed counted. -/
theorem foldl_clampShift_sets (offs : List Nat) (c : Clamped) (hin : ∀ off ∈ offs, off < c.img.length)
    (hnodup : offs.Nodup) :
    (∀ i, (offs.foldl (fun c off => clampShift off c) c).img.getD i 0 =
        if i ∈ offs then lowerShift (c.img.getD i 0) else c.img.getD i 0) ∧
      (offs.foldl (fun c off => clampShift off c) c).count = c.count +
        changed (offs.map (shiftAt c.img)) (offs.map (shiftAt (offs.foldl (fun c off => clampShift off c) c).img)) := by
  induction offs generalizing c with
  | nil => exact ⟨fun i => by simp, rfl⟩
  | cons off offs ih =>
    obtain ⟨hnot, hrest⟩ := List.nodup_cons.mp hnodup
    have hoff := hin off List.mem_cons_self
    have hlen := clampShift_length off c hoff
    obtain ⟨bytes, count⟩ := clampShift_sets off c hoff
    obtain ⟨ihbytes, ihcount⟩ := ih (clampShift off c)
      (fun o ho => hlen ▸ hin o (List.mem_cons_of_mem off ho)) hrest
    have before : offs.map (shiftAt (clampShift off c).img) = offs.map (shiftAt c.img) := by
      refine List.map_congr_left fun o ho => ?_
      have hne : o ≠ off := fun e => hnot (e ▸ ho)
      rw [shiftAt, bytes, if_neg hne, shiftAt]
    rw [List.foldl_cons]
    refine ⟨fun i => ?_, ?_⟩
    · rw [ihbytes, bytes]
      by_cases hi : i = off
      · subst hi
        rw [if_neg hnot, if_pos rfl, if_pos List.mem_cons_self]
      · simp only [List.mem_cons, hi, false_or, if_false]
    · have after : shiftAt (offs.foldl (fun c off => clampShift off c) (clampShift off c)).img off =
          shiftAt (clampShift off c).img off := by
        rw [shiftAt, ihbytes, if_neg hnot, shiftAt]
      rw [List.map_cons, List.map_cons, changed_cons, after, ihcount, before, count, Nat.add_assoc]

/-- The six shifts of the Band Table. -/
def bandFields (img : List Byte) : List Nat :=
  [Band.b0, .b1, .b2].flatMap (fun b => [(readBand img b).vShift, (readBand img b).hShift])

theorem bandFields_eq (img : List Byte) : bandFields img = shiftBytes.map (shiftAt img) := rfl

/-- A band with its shifts clamped. -/
def clampedBand (b : BandCfg) : BandCfg :=
  { b with vShift := orElse 0 30 30 b.vShift, hShift := orElse 0 30 30 b.hShift }

/-- The shifts stand in the first two bytes of their bands. -/
theorem bandOffset_add_mem_shiftBytes (b : Band) {i : Nat} (hi : i < 32) : bandOffset b + i ∈ shiftBytes ↔ i < 2 := by
  cases b <;> simp only [bandOffset, shiftBytes, List.mem_cons, List.not_mem_nil, or_false] <;> omega

/-- Coefficients depend on their fifteen bytes alone. -/
theorem readCoeffs_congr {a b : List Byte} (hlen : a.length = b.length) {off : Nat}
    (h : ∀ i, off ≤ i → i < off + 15 → a.getD i 0 = b.getD i 0) : readCoeffs a off = readCoeffs b off := by
  have coeff : ∀ i < 5, fieldAt a (off + 3 * i) 3 = fieldAt b (off + 3 * i) 3 := fun i hi =>
    fieldAt_congr a b _ _ hlen (fun j _ _ => h j (by omega) (by omega))
  simp only [readCoeffs, coeff 0 (by decide), coeff 1 (by decide), coeff 2 (by decide), coeff 3 (by decide),
    coeff 4 (by decide)]

theorem clampBandTable_eq_foldl (img : List Byte) :
    clampBandTable img = shiftBytes.foldl (fun c off => clampShift off c) ⟨img, 0⟩ := by
  simp only [clampBandTable, shiftBytes, List.foldl_cons, List.foldl_nil]

theorem clampBandTable_exact {img : List Byte} (h : img.length = 96) :
    (∀ b, readBand (clampBandTable img).img b = clampedBand (readBand img b)) ∧
      (∀ (b : Band) (k : Nat), 5 ≤ k → ((clampBandTable img).img.getD (bandOffset b + 1) 0).getLsbD k =
        (img.getD (bandOffset b + 1) 0).getLsbD k) ∧
      (clampBandTable img).count = changed (bandFields img) (bandFields (clampBandTable img).img) := by
  have hin : ∀ off ∈ shiftBytes, off < (⟨img, 0⟩ : Clamped).img.length := by
    rw [h]
    decide
  obtain ⟨bytes, count⟩ := foldl_clampShift_sets shiftBytes ⟨img, 0⟩ hin (by decide)
  have hlen := (clampBandTable_clamped img h).1
  rw [← clampBandTable_eq_foldl] at bytes count
  have shifted : ∀ (b : Band) (i : Nat), i < 2 →
      (clampBandTable img).img.getD (bandOffset b + i) 0 = lowerShift (img.getD (bandOffset b + i) 0) :=
    fun b i hi => by rw [bytes, if_pos ((bandOffset_add_mem_shiftBytes b (by omega)).mpr hi)]
  have kept : ∀ (b : Band) (i : Nat), 2 ≤ i → i < 32 →
      (clampBandTable img).img.getD (bandOffset b + i) 0 = img.getD (bandOffset b + i) 0 :=
    fun b i hi hi' => by rw [bytes, if_neg ((bandOffset_add_mem_shiftBytes b hi').not.mpr (by omega))]
  have coeffs : ∀ (b : Band) (o : Nat), 2 ≤ o → o + 15 ≤ 32 →
      readCoeffs (clampBandTable img).img (bandOffset b + o) = readCoeffs img (bandOffset b + o) := by
    intro b o hlow hhigh
    refine readCoeffs_congr (hlen.trans h.symm) fun i hi hi' => ?_
    obtain ⟨j, rfl⟩ := Nat.exists_eq_add_of_le (show bandOffset b ≤ i by omega)
    exact kept b j (by omega) (by omega)
  refine ⟨fun b => ?_, fun b k hk => ?_, ?_⟩
  · have first := shifted b 0 (by decide)
    rw [Nat.add_zero] at first
    simp only [readBand, clampedBand, first, shifted b 1 (by decide), coeffs b 2 (by decide) (by decide),
      coeffs b 17 (by decide) (by decide), lowerShift_shift, lowerShift_getLsbD _ (le_refl 5),
      lowerShift_getLsbD _ (show 5 ≤ 6 by decide), lowerShift_getLsbD _ (show 5 ≤ 7 by decide)]
  · rw [shifted b 1 (by decide), lowerShift_getLsbD _ hk]
  · rw [bandFields_eq, bandFields_eq, count, Nat.zero_add]

theorem clampBandTable_of_inRange {img : List Byte}
    (h : ∀ b : Band, (readBand img b).vShift ≤ 30 ∧ (readBand img b).hShift ≤ 30) : clampBandTable img = ⟨img, 0⟩ := by
  obtain ⟨v0, h0⟩ := h .b0
  obtain ⟨v1, h1⟩ := h .b1
  obtain ⟨v2, h2⟩ := h .b2
  have stays : ∀ off, shiftAt img off ≤ 30 → clampShift off ⟨img, 0⟩ = ⟨img, 0⟩ := fun _ h => clampShift_of_le h
  rw [clampBandTable, stays 0 v0, stays 1 h0, stays 32 v1, stays 33 h1, stays 64 v2, stays 65 h2]

end Sys2Proof.Proofs
end

section
/-! PROOFS. The Detection Profiles and the Event Rules clamped, each field in the order of the rules against the fields
clamped before it; and the four images together (R145, R147, R183, R185). -/

namespace Sys2Proof.Proofs

open Sys2Proof Sys2Proof.Machine Sys2Proof.Safety

/-! ### The Detection Profiles (R147) -/

/-- A profile clamped: thr_off and the warm-up against the clamped thr_on and kl, kl against the clamped ks. -/
def clampedProfile (p : Profile) : Profile :=
  let ks := nearer 1 8 p.ks
  let kl := nearer (ks + 1) 15 p.kl
  let thrOn := nearer 17 1023 p.thrOn
  { ks := ks, kl := kl, thrOn := thrOn, thrOff := nearer 16 (thrOn - 1) p.thrOff
    floor := orElse 1 16777215 1 p.floor, onsetFactor := nearer 16 1023 p.onsetFactor
    depth := nearer 1 127 p.depth, warmUp := orElse (2 ^ kl) 65535 (2 ^ kl) p.warmUp
    maxOn := orElse 1 65535 1 p.maxOn }

/-- One profile clamped: its nine fields, the rest of the image left alone, and the fields that changed counted. -/
theorem clampProfile_exact (d : Det) (c : Clamped) (h : profOffset d + 16 ≤ c.img.length) :
    readProfile (clampProfile d c).img d = clampedProfile (readProfile c.img d) ∧
      (clampProfile d c).count = c.count +
        changed (profileFields (readProfile c.img d)) (profileFields (readProfile (clampProfile d c).img d)) := by
  simp only [clampProfile, readProfile]
  generalize profOffset d = o at *
  have s1 := clampNearer_sets o 1 1 8 c rfl (by omega) (by norm_num) (by norm_num)
  generalize clampNearer o 1 1 8 c = c1 at *
  have hks : fieldAt c1.img o 1 ≤ 8 := s1.value ▸ nearer_le (by decide) _
  have s2 := clampNearer_sets (o + 1) 1 (fieldAt c1.img o 1 + 1) 15 c1 s1.size (by omega) (by omega) (by norm_num)
  generalize clampNearer (o + 1) 1 (fieldAt c1.img o 1 + 1) 15 c1 = c2 at *
  have hkl : fieldAt c2.img (o + 1) 1 ≤ 15 := s2.value ▸ nearer_le (by omega) _
  have s3 := clampNearer_sets (o + 2) 2 17 1023 c2 s2.size (by omega) (by norm_num) (by norm_num)
  generalize clampNearer (o + 2) 2 17 1023 c2 = c3 at *
  have s4 := clampNearer_sets (o + 4) 2 16 (fieldAt c3.img (o + 2) 2 - 1) c3 s3.size (by omega) (by norm_num)
    ((Nat.sub_le _ _).trans_lt (fieldAt_lt _ _ _))
  generalize clampNearer (o + 4) 2 16 (fieldAt c3.img (o + 2) 2 - 1) c3 = c4 at *
  have s5 := clampTo_sets (o + 6) 3 1 16777215 1 c4 s4.size (by omega) (by norm_num) (by norm_num) (by norm_num)
  generalize clampTo (o + 6) 3 1 16777215 1 c4 = c5 at *
  have s6 := clampNearer_sets (o + 9) 2 16 1023 c5 s5.size (by omega) (by norm_num) (by norm_num)
  generalize clampNearer (o + 9) 2 16 1023 c5 = c6 at *
  have s7 := clampNearer_sets (o + 11) 1 1 127 c6 s6.size (by omega) (by norm_num) (by norm_num)
  generalize clampNearer (o + 11) 1 1 127 c6 = c7 at *
  have hkl7 : fieldAt c7.img (o + 1) 1 = fieldAt c2.img (o + 1) 1 := by
    simp (disch := omega) only [s7.fieldAt, s6.fieldAt, s5.fieldAt, s4.fieldAt, s3.fieldAt]
  have hpow : 2 ^ fieldAt c7.img (o + 1) 1 ≤ 65535 :=
    (Nat.pow_le_pow_right (by norm_num) (hkl7 ▸ hkl)).trans (by norm_num : 2 ^ 15 ≤ 65535)
  have s8 := clampTo_sets (o + 12) 2 (2 ^ fieldAt c7.img (o + 1) 1) 65535 (2 ^ fieldAt c7.img (o + 1) 1) c7 s7.size
    (by omega) (le_refl _) hpow (hpow.trans_lt (by norm_num))
  generalize clampTo (o + 12) 2 (2 ^ fieldAt c7.img (o + 1) 1) 65535 (2 ^ fieldAt c7.img (o + 1) 1) c7 = c8 at *
  have s9 := clampTo_sets (o + 14) 2 1 65535 1 c8 s8.size (by omega) (by norm_num) (by norm_num) (by norm_num)
  generalize clampTo (o + 14) 2 1 65535 1 c8 = c9 at *
  refine ⟨?_, ?_⟩
  · simp (disch := omega) only [clampedProfile, s9.value, s9.fieldAt, s8.value, s8.fieldAt, s7.value, s7.fieldAt,
      s6.value, s6.fieldAt, s5.value, s5.fieldAt, s4.value, s4.fieldAt, s3.value, s3.fieldAt, s2.value, s2.fieldAt,
      s1.value, s1.fieldAt]
  · simp only [profileFields, changed_cons, changed_nil, s9.count, s8.count, s7.count, s6.count, s5.count, s4.count,
      s3.count, s2.count, s1.count, Nat.add_zero, Nat.add_assoc]
    simp (disch := omega) only [s9.value, s9.fieldAt, s8.value, s8.fieldAt, s7.value, s7.fieldAt,
      s6.value, s6.fieldAt, s5.value, s5.fieldAt, s4.value, s4.fieldAt, s3.value, s3.fieldAt, s2.value, s2.fieldAt,
      s1.value, s1.fieldAt]

/-- The fields of profiles in a list. -/
def profilesFields (img : List Byte) (ds : List Det) : List Nat :=
  ds.flatMap (fun d => profileFields (readProfile img d))

theorem profilesFields_cons (img : List Byte) (d : Det) (ds : List Det) :
    profilesFields img (d :: ds) = profileFields (readProfile img d) ++ profilesFields img ds :=
  List.flatMap_cons

theorem profileFields_length (p : Profile) : (profileFields p).length = 9 := rfl

theorem profilesFields_all_length (img : List Byte) : (profilesFields img Det.all).length = 54 := rfl

/-- One profile after another clamped: each once, the bytes of none of them left alone, and every field that changed
counted. -/
theorem foldl_clampProfile_exact (ds : List Det) (c : Clamped) (hlen : c.img.length = 144) (hnodup : ds.Nodup) :
    (∀ e ∈ ds, readProfile (ds.foldl (fun c d => clampProfile d c) c).img e = clampedProfile (readProfile c.img e)) ∧
      (∀ i, (∀ d ∈ ds, i < profOffset d ∨ profOffset d + 16 ≤ i) →
        (ds.foldl (fun c d => clampProfile d c) c).img.getD i 0 = c.img.getD i 0) ∧
      (ds.foldl (fun c d => clampProfile d c) c).count = c.count +
        changed (profilesFields c.img ds) (profilesFields (ds.foldl (fun c d => clampProfile d c) c).img ds) := by
  induction ds generalizing c with
  | nil => exact ⟨nofun, fun _ _ => rfl, rfl⟩
  | cons d ds ih =>
    have hd := profOffset_le d
    obtain ⟨hnot, hrest⟩ := List.nodup_cons.mp hnodup
    obtain ⟨-, houtside⟩ := clampProfile_clamped d c (by omega)
    obtain ⟨hvalue, hcount⟩ := clampProfile_exact d c (by omega)
    have hlen' := houtside.length.trans hlen
    obtain ⟨ihvalue, ihbytes, ihcount⟩ := ih (clampProfile d c) hlen' hrest
    obtain ⟨-, hother, -⟩ := foldl_clampProfile ds (clampProfile d c) hlen' hrest
    have before : ∀ e ∈ ds, readProfile (clampProfile d c).img e = readProfile c.img e := fun e he =>
      readProfile_of_sameOutside houtside (fun hde => hnot (hde ▸ he))
    have fieldsBefore : profilesFields (clampProfile d c).img ds = profilesFields c.img ds :=
      List.flatMap_congr fun e he => by rw [before e he]
    rw [List.foldl_cons]
    refine ⟨fun e he => ?_, fun i hi => ?_, ?_⟩
    · obtain rfl | he := List.mem_cons.mp he
      · rw [hother e hnot, hvalue]
      · rw [ihvalue e he, before e he]
    · rw [ihbytes i (fun e he => hi e (List.mem_cons_of_mem d he)), houtside.getD i (hi d List.mem_cons_self)]
    · rw [ihcount, hcount, fieldsBefore, profilesFields_cons, profilesFields_cons, hother d hnot,
        changed_append (by rw [profileFields_length, profileFields_length]), Nat.add_assoc]

/-- The profiles stand 24 bytes apart (section 11.5). -/
theorem profOffset_mod (d : Det) : profOffset d % 24 = 0 := by
  cases d <;> rfl

/-- The last eight bytes of a profile's part of the image are no profile's. -/
theorem profile_rest_apart (d e : Det) {i : Nat} (hlow : 16 ≤ i) (hhigh : i < 24) :
    profOffset d + i < profOffset e ∨ profOffset e + 16 ≤ profOffset d + i := by
  have hd := profOffset_mod d
  have he := profOffset_mod e
  omega

theorem clampProfiles_exact {img : List Byte} (h : img.length = 144) :
    (∀ d, readProfile (clampProfiles img).img d = clampedProfile (readProfile img d)) ∧
      (∀ (d : Det) (i : Nat), 16 ≤ i → i < 24 →
        (clampProfiles img).img.getD (profOffset d + i) 0 = img.getD (profOffset d + i) 0) ∧
      (clampProfiles img).count =
        changed (profilesFields img Det.all) (profilesFields (clampProfiles img).img Det.all) := by
  obtain ⟨hvalue, hbytes, hcount⟩ := foldl_clampProfile_exact Det.all ⟨img, 0⟩ h (by decide)
  rw [Nat.zero_add] at hcount
  rw [clampProfiles]
  exact ⟨fun d => hvalue d (by cases d <;> decide),
    fun d i hlow hhigh => hbytes _ (fun e _ => profile_rest_apart d e hlow hhigh), hcount⟩

theorem clampProfile_of_inRange {d : Det} {c : Clamped} (h : ProfileInRange (readProfile c.img d)) :
    clampProfile d c = c := by
  simp only [ProfileInRange, readProfile] at h
  obtain ⟨ksLow, ksHigh, klLow, klHigh, onLow, onHigh, offLow, offHigh, floorLow, onsetLow, onsetHigh, depthLow,
    depthHigh, warmLow, maxLow⟩ := h
  have floorHigh := fieldAt_lt c.img (profOffset d + 6) 3
  have warmHigh := fieldAt_lt c.img (profOffset d + 12) 2
  have maxHigh := fieldAt_lt c.img (profOffset d + 14) 2
  simp (disch := omega) only [clampProfile, clampTo_of_inRange, clampNearer_of_inRange]

theorem clampProfiles_of_inRange {img : List Byte} (h : ∀ d, ProfileInRange (readProfile img d)) :
    clampProfiles img = ⟨img, 0⟩ := by
  have stays : ∀ d, clampProfile d ⟨img, 0⟩ = ⟨img, 0⟩ := fun d => clampProfile_of_inRange (h d)
  rw [clampProfiles]
  exact List.foldl_fixed' (f := fun c d => clampProfile d c) stays Det.all

/-! ### The Event Rules (R147) -/

/-- The nine fields of the Event Rules that are clamped. -/
def ruleFields (r : Rules) : List Nat :=
  [r.fmWindow, r.fmFactor, r.pRatio, r.sRatio, r.sMin, r.sMax, r.codaHold, r.maxEvent, r.watermark]

/-- The Event Rules clamped: the end of the S window and the longest event against the fields clamped before them. -/
def clampedRules (r : Rules) : Rules :=
  let fmWindow := nearer 4 64 r.fmWindow
  let sMin := orElse 1 65535 1 r.sMin
  let sMax := orElse sMin 65535 sMin r.sMax
  { fmWindow := fmWindow, fmFactor := nearer 16 1023 r.fmFactor, pRatio := nearer 16 1023 r.pRatio
    sRatio := nearer 16 1023 r.sRatio, sMin := sMin, sMax := sMax, merge := r.merge
    codaHold := orElse 1 65535 1 r.codaHold, maxEvent := nearer (sMax + fmWindow) 1000000 r.maxEvent
    watermark := nearer 8 32 r.watermark }

theorem clampRules_exact {img : List Byte} (h : img.length = 32) :
    readRules (clampRules img).img = clampedRules (readRules img) ∧
      (∀ i, 19 ≤ i → (clampRules img).img.getD i 0 = img.getD i 0) ∧
      (clampRules img).count =
        changed (ruleFields (readRules img)) (ruleFields (readRules (clampRules img).img)) := by
  simp only [clampRules]
  have s1 := clampNearer_sets 0 1 4 64 ⟨img, 0⟩ h (by norm_num) (by norm_num) (by norm_num)
  generalize clampNearer 0 1 4 64 ⟨img, 0⟩ = c1 at *
  have s2 := clampNearer_sets 1 2 16 1023 c1 s1.size (by norm_num) (by norm_num) (by norm_num)
  generalize clampNearer 1 2 16 1023 c1 = c2 at *
  have s3 := clampNearer_sets 3 2 16 1023 c2 s2.size (by norm_num) (by norm_num) (by norm_num)
  generalize clampNearer 3 2 16 1023 c2 = c3 at *
  have s4 := clampNearer_sets 5 2 16 1023 c3 s3.size (by norm_num) (by norm_num) (by norm_num)
  generalize clampNearer 5 2 16 1023 c3 = c4 at *
  have s5 := clampTo_sets 7 2 1 65535 1 c4 s4.size (by norm_num) (by norm_num) (by norm_num) (by norm_num)
  generalize clampTo 7 2 1 65535 1 c4 = c5 at *
  have hsMin := fieldAt_lt c5.img 7 2
  have s6 := clampTo_sets 9 2 (fieldAt c5.img 7 2) 65535 (fieldAt c5.img 7 2) c5 s5.size (by norm_num) (le_refl _)
    (by omega) hsMin
  generalize clampTo 9 2 (fieldAt c5.img 7 2) 65535 (fieldAt c5.img 7 2) c5 = c6 at *
  have s7 := clampTo_sets 12 2 1 65535 1 c6 s6.size (by norm_num) (by norm_num) (by norm_num) (by norm_num)
  generalize clampTo 12 2 1 65535 1 c6 = c7 at *
  have hsMax := fieldAt_lt c7.img 9 2
  have hfm := fieldAt_lt c7.img 0 1
  have s8 := clampNearer_sets 14 4 (fieldAt c7.img 9 2 + fieldAt c7.img 0 1) 1000000 c7 s7.size (by norm_num)
    (by omega) (by norm_num)
  generalize clampNearer 14 4 (fieldAt c7.img 9 2 + fieldAt c7.img 0 1) 1000000 c7 = c8 at *
  have s9 := clampNearer_sets 18 1 8 32 c8 s8.size (by norm_num) (by norm_num) (by norm_num)
  generalize clampNearer 18 1 8 32 c8 = c9 at *
  refine ⟨?_, fun i hi => ?_, ?_⟩
  · simp (disch := omega) only [readRules, clampedRules, s9.value, s9.fieldAt, s8.value, s8.fieldAt, s7.value,
      s7.fieldAt, s6.value, s6.fieldAt, s5.value, s5.fieldAt, s4.value, s4.fieldAt, s3.value, s3.fieldAt, s2.value,
      s2.fieldAt, s1.value, s1.fieldAt]
  · rw [s9.getD i (by omega), s8.getD i (by omega), s7.getD i (by omega), s6.getD i (by omega), s5.getD i (by omega),
      s4.getD i (by omega), s3.getD i (by omega), s2.getD i (by omega), s1.getD i (by omega)]
  · simp only [ruleFields, changed_cons, changed_nil, s9.count, s8.count, s7.count, s6.count, s5.count, s4.count,
      s3.count, s2.count, s1.count, Nat.zero_add, Nat.add_zero, Nat.add_assoc]
    simp (disch := omega) only [readRules, s9.value, s9.fieldAt, s8.value, s8.fieldAt, s7.value,
      s7.fieldAt, s6.value, s6.fieldAt, s5.value, s5.fieldAt, s4.value, s4.fieldAt, s3.value, s3.fieldAt, s2.value,
      s2.fieldAt, s1.value, s1.fieldAt]

theorem clampRules_of_inRange {img : List Byte} (h : RulesInRange (readRules img)) : clampRules img = ⟨img, 0⟩ := by
  simp only [RulesInRange, readRules] at h
  obtain ⟨fmLow, fmHigh, factorLow, factorHigh, pLow, pHigh, sLow, sHigh, sMinLow, sMaxLow, holdLow, eventLow,
    eventHigh, waterLow, waterHigh⟩ := h
  have sMinHigh : fieldAt img 7 2 ≤ 65535 := Nat.le_of_lt_succ (fieldAt_lt img 7 2)
  have sMaxHigh : fieldAt img 9 2 ≤ 65535 := Nat.le_of_lt_succ (fieldAt_lt img 9 2)
  have holdHigh : fieldAt img 12 2 ≤ 65535 := Nat.le_of_lt_succ (fieldAt_lt img 12 2)
  simp (disch := omega) only [clampRules, clampTo_of_inRange, clampNearer_of_inRange]

/-! ### The four images (R145, R183) -/

theorem clampedFields_eq (t : PerTable (List Byte)) : clampedFields t =
    mapFields (readChannelMap t.chan) ++ bandFields t.band ++ profilesFields t.prof Det.all ++
      ruleFields (readRules t.rules) :=
  rfl

theorem clampedFields_length (t : PerTable (List Byte)) : (clampedFields t).length = 75 := rfl

theorem mapFields_length (m : ChannelMap) : (mapFields m).length = 6 := rfl

theorem bandFields_length (img : List Byte) : (bandFields img).length = 6 := rfl

theorem clampAll_counts (t : PerTable (List Byte)) : (clampAll t).2 = (clampChannelMap t.chan).count +
    (clampBandTable t.band).count + (clampProfiles t.prof).count + (clampRules t.rules).count := by
  simp only [clampAll]

theorem clampAll_count {t : PerTable (List Byte)} (h : ImagesSized t) :
    (clampAll t).2 = changed (clampedFields t) (clampedFields (clampAll t).1) := by
  obtain ⟨hchan, hband, hprof, hrules⟩ := h
  obtain ⟨-, -, chan⟩ := clampChannelMap_exact hchan
  obtain ⟨-, -, band⟩ := clampBandTable_exact hband
  obtain ⟨-, -, prof⟩ := clampProfiles_exact hprof
  obtain ⟨-, -, rules⟩ := clampRules_exact hrules
  rw [clampedFields_eq, clampedFields_eq, clampAll_chan, clampAll_band, clampAll_prof, clampAll_rules,
    changed_append (by simp only [List.length_append, mapFields_length, bandFields_length, profilesFields_all_length]),
    changed_append (by simp only [List.length_append, mapFields_length, bandFields_length]),
    changed_append (by rw [mapFields_length, mapFields_length]), ← chan, ← band, ← prof, ← rules, clampAll_counts]

/-- Images in range stay as they are. -/
theorem clampAll_of_inRange {t : PerTable (List Byte)} (h : InRange t) : clampAll t = (t, 0) := by
  obtain ⟨chan, band, prof, rules⟩ := h
  simp only [clampAll, clampChannelMap_of_inRange chan, clampBandTable_of_inRange band, clampProfiles_of_inRange prof,
    clampRules_of_inRange rules]

/-- Settles O44, image by image: the exact clamp of each, and the four counts added. -/
theorem clampingBringsEveryFieldIntoRange : Obligations.ClampingBringsEveryFieldIntoRange := by
  intro t sized u
  obtain ⟨usized, inRange, ids⟩ := clampAll_clamped t sized
  have count := clampAll_count sized
  have hu : (clampAll t).1 = u := rfl
  rw [hu] at usized inRange ids count
  have huchan : u.chan = (clampChannelMap t.chan).img := clampAll_chan t
  have huband : u.band = (clampBandTable t.band).img := clampAll_band t
  have huprof : u.prof = (clampProfiles t.prof).img := clampAll_prof t
  have hurules : u.rules = (clampRules t.rules).img := clampAll_rules t
  clear_value u
  obtain ⟨hchan, hband, hprof, hrules⟩ := sized
  obtain ⟨map, mapRest, -⟩ := clampChannelMap_exact hchan
  obtain ⟨bands, bandBits, -⟩ := clampBandTable_exact hband
  obtain ⟨profiles, profRest, -⟩ := clampProfiles_exact hprof
  obtain ⟨rules, rulesRest, -⟩ := clampRules_exact hrules
  rw [← huchan] at map mapRest
  rw [← huband] at bands bandBits
  rw [← huprof] at profiles profRest
  rw [← hurules] at rules rulesRest
  exact ⟨map, bands, profiles, rules, mapRest, bandBits, profRest, rulesRest, count, inRange, usized,
    count ▸ changed_le _ _, clampAll_of_inRange, ids⟩

end Sys2Proof.Proofs
end

section
/-! PROOFS. A step on a queue that is not empty, PICKER_RESTART and PART_RESET, and the judgement of every command row in
the order of R160. -/

namespace Sys2Proof.Proofs

open Sys2Proof Sys2Proof.Machine Sys2Proof.Safety

/-! ### The step on a queue that is not empty -/

/-- Settles O1: the branch of `step` on a queue that is not empty. -/
theorem stepRunsTheFrontCommand : Obligations.StepRunsTheFrontCommand := fun _ _ _ => rfl

/-! ### The rows that restart, reset, echo and read (R163, R164, R169, R171) -/

theorem commandRow_echo (tag : Byte) (ps : List Byte) :
    CommandRow (.echo tag ps) tag codeEcho ps (readEcho ps) (fun data s => done data s) :=
  ⟨rfl, fun _ => rfl⟩

theorem commandRow_statusRead (tag : Byte) (ps : List Byte) :
    CommandRow (.statusRead tag ps) tag codeStatusRead ps (readStatusRead ps)
      (fun n s => done (cutBlock n s.statusBlock) s) :=
  ⟨rfl, fun _ => rfl⟩

theorem commandRow_pickerRestart (tag : Byte) (ps : List Byte) :
    CommandRow (.pickerRestart tag ps) tag codePickerRestart ps (readNone ps) (fun _ s => restartPicker s) :=
  ⟨rfl, fun _ => rfl⟩

theorem commandRow_partReset (tag : Byte) (ps : List Byte) :
    CommandRow (.partReset tag ps) tag codePartReset ps (readNone ps) (fun _ s => markReset s) :=
  ⟨rfl, fun _ => rfl⟩

/-! ### PICKER_RESTART and PART_RESET (R169 to R171) -/

theorem restartPicker_disarmed {s : State} (h : s.tables.picker = .disarmed) : restartPicker s = refuse .nothing s := by
  rw [restartPicker, h]

theorem restartPicker_running {s : State} (h : s.tables.picker = .running) :
    restartPicker s = done [] (sendNotices .restart (clearAssembler s)) := by
  rw [restartPicker, h]

/-- Settles O52: PICKER_RESTART by the picker's state, and PART_RESET by its own reply, which is the one that resets. -/
theorem restartAndResetAreAnswered : Obligations.RestartAndResetAreAnswered := by
  refine fun tag s => ⟨fun ready => ⟨fun hpicker => ?disarmed, fun hpicker => ?running⟩, fun ready => ?reset⟩
  case disarmed =>
    exact (commandRow_pickerRestart tag []).exec_run ready rfl (restartPicker_disarmed (s := frameGone s) hpicker)
  case running =>
    exact (commandRow_pickerRestart tag []).exec_run ready rfl (restartPicker_running (s := frameGone s) hpicker)
  case reset =>
    obtain ⟨notPending, room, turn⟩ := ready
    exact runCommand_ready codePartReset tag [] (fun s => markReset s) s notPending room turn

/-! ### Parameters of a wrong length (R160, step 6) -/

section
variable {ps : List Byte}

theorem readNone_wrongLength (h : ps.length ≠ 0) : readNone ps = none := by
  match ps, h with
  | [], h => exact absurd rfl h
  | _ :: _, _ => rfl

theorem readByteUpTo_wrongLength (limit : Nat) (h : ps.length ≠ 1) : readByteUpTo limit ps = none := by
  match ps, h with
  | [], _ => rfl
  | [_], h => exact absurd rfl h
  | _ :: _ :: _, _ => rfl

theorem readWordUpTo_wrongLength (limit : Nat) (h : ps.length ≠ 2) : readWordUpTo limit ps = none := by
  match ps, h with
  | [], _ => rfl
  | [_], _ => rfl
  | [_, _], h => exact absurd rfl h
  | _ :: _ :: _ :: _, _ => rfl

theorem readMapGuard_wrongLength (h : ps.length ≠ 2) : readMapGuard ps = none := by
  match ps, h with
  | [], _ => rfl
  | [_], _ => rfl
  | [_, _], h => exact absurd rfl h
  | _ :: _ :: _ :: _, _ => rfl

theorem readAttentionMask_wrongLength (h : ps.length ≠ 3) : readAttentionMask ps = none := by
  match ps, h with
  | [], _ => rfl
  | [_], _ => rfl
  | [_, _], _ => rfl
  | [_, _, _], h => exact absurd rfl h
  | _ :: _ :: _ :: _ :: _, _ => rfl

theorem readFlagsClear_wrongLength (h : ps.length ≠ 4) : readFlagsClear ps = none := by
  match ps, h with
  | [], _ => rfl
  | [_], _ => rfl
  | [_, _], _ => rfl
  | [_, _, _], _ => rfl
  | [_, _, _, _], h => exact absurd rfl h
  | _ :: _ :: _ :: _ :: _ :: _, _ => rfl

theorem readTableRead_wrongLength (h : ps.length ≠ 4) : readTableRead ps = none := by
  match ps, h with
  | [], _ => rfl
  | [_], _ => rfl
  | [_, _], _ => rfl
  | [_, _, _], _ => rfl
  | [_, _, _, _], h => exact absurd rfl h
  | _ :: _ :: _ :: _ :: _ :: _, _ => rfl

theorem readEgressMode_wrongLength (h : ps.length ≠ 1) : readEgressMode ps = none := by
  rw [readEgressMode, readByteUpTo_wrongLength 1 h]

end

/-! ### A row in its turn and out of it (R159, R160, steps 1 to 3) -/

/-- It is the turn of the frame with the payload `p`: it is the oldest that waits, or none waits (log entry 4). -/
def InTurn (p : List Byte) (s : State) : Prop := s.cmd.inbox = [] ∨ s.cmd.inbox.head? = some p

/-- What the Command Unit does with the row `c` of the payload `p` before it looks at the code. -/
structure TakenInOrder (c : Instr) (p : List Byte) : Prop where
  waits : ∀ s, ¬ InTurn p s → exec c s = .next s
  discarded : ∀ s, InTurn p s → s.cmd.resetPending = true → exec c s = .next (frameGone s)
  overrun : ∀ s, InTurn p s → s.cmd.resetPending = false → p ≠ [] → 4 ≤ s.cmd.replies.length →
    exec c s = .next ((frameGone s).latch .replyOverrun)

section
variable {tag code : Byte} {run : State → Answer} {s : State}

theorem judgeTagged_discarded (h : s.cmd.resetPending = true) : judgeTagged tag code run s = s :=
  if_pos h

theorem judgeTagged_overrun (h : s.cmd.resetPending = false) (hfull : 4 ≤ s.cmd.replies.length) :
    judgeTagged tag code run s = s.latch .replyOverrun := by
  simp [judgeTagged, h, Config.replyDepth, hfull]

theorem judgeTagged_run (h : s.cmd.resetPending = false) (hroom : s.cmd.replies.length < 4) :
    judgeTagged tag code run s =
      pushReply ⟨tag, code, (run s).result, (run s).data, (run s).resets⟩ (run s).state := by
  simp [judgeTagged, h, Config.replyDepth, Nat.not_le.mpr hroom]

end

section
variable {α : Type} {c : Instr} {tag code : Byte} {ps : List Byte} {args : Option α} {run : α → State → Answer}

/-- In its turn a row of a known code is judged. -/
theorem CommandRow.exec_turn (row : CommandRow c tag code ps args run) {s : State}
    (turn : InTurn (tag :: code :: ps) s) :
    exec c s = .next (judgeTagged tag code (withForm args run) (frameGone s)) := by
  rw [row.exec_eq, runCommand, takeFrame_ready _ _ turn]
  rfl

/-- A row of a known code is taken in its turn, discarded or overrun before its form is judged. -/
theorem CommandRow.takenInOrder (row : CommandRow c tag code ps args run) : TakenInOrder c (tag :: code :: ps) where
  waits s turn := by rw [row.exec_eq, runCommand, takeFrame_none _ _ turn]
  discarded s turn hreset := by rw [row.exec_turn turn, judgeTagged_discarded (s := frameGone s) hreset]
  overrun s turn hreset _ hfull := by rw [row.exec_turn turn, judgeTagged_overrun (s := frameGone s) hreset hfull]

end

/-! ### Payloads that name no command (R160, steps 2, 4 and 5) -/

section
variable {p : List Byte} {s : State}

/-- In its turn a payload that names no command is judged as such. -/
theorem exec_commandUndecoded (hp : decodePayload p = .commandUndecoded p) (turn : InTurn p s) :
    exec (.commandUndecoded p) s = .next (judgeUndecoded p (frameGone s)) := by
  simp only [exec, execCommandUndecoded, undecodable, hp, decide_true, if_true, takeFrame_ready _ _ turn]
  rfl

theorem judgeUndecoded_discarded (h : s.cmd.resetPending = true) : judgeUndecoded p s = s :=
  if_pos h

theorem judgeUndecoded_nil (h : s.cmd.resetPending = false) : judgeUndecoded [] s = s.bump .badCommands 1 := by
  simp [judgeUndecoded, h]

theorem judgeUndecoded_tag (tag : Byte) (h : s.cmd.resetPending = false) :
    judgeUndecoded [tag] s = judgeTagged tag 0 (refuse .malformed) s := by
  simp [judgeUndecoded, h]

theorem judgeUndecoded_code (tag code : Byte) (ps : List Byte) (h : s.cmd.resetPending = false) :
    judgeUndecoded (tag :: code :: ps) s = judgeTagged tag code (refuse .unknown) s := by
  simp [judgeUndecoded, h]

theorem judgeUndecoded_overrun (hp : p ≠ []) (h : s.cmd.resetPending = false) (hfull : 4 ≤ s.cmd.replies.length) :
    judgeUndecoded p s = s.latch .replyOverrun := by
  match p with
  | [] => exact absurd rfl hp
  | [tag] => rw [judgeUndecoded_tag tag h, judgeTagged_overrun h hfull]
  | tag :: code :: ps => rw [judgeUndecoded_code tag code ps h, judgeTagged_overrun h hfull]

end

/-- A payload that names no command is taken in its turn, discarded or overrun as any other. -/
theorem takenInOrder_commandUndecoded {p : List Byte} (hp : decodePayload p = .commandUndecoded p) :
    TakenInOrder (.commandUndecoded p) p where
  waits s turn := by
    simp only [exec, execCommandUndecoded, undecodable, hp, decide_true, if_true, takeFrame_none _ _ turn]
  discarded s turn hreset := by rw [exec_commandUndecoded hp turn, judgeUndecoded_discarded (s := frameGone s) hreset]
  overrun s turn hreset hne hfull := by rw [exec_commandUndecoded hp turn, judgeUndecoded_overrun (s := frameGone s) hne hreset hfull]

/-! ### Every command row -/

/-- The payload of a well-formed command row decodes to the row, which is taken in its turn. -/
theorem decodes_and_takenInOrder {c : Instr} {p : List Byte} (hw : wellFormed c = true) (hp : encodePayload c = some p) :
    decodePayload p = c ∧ TakenInOrder c p := by
  cases c with
  | commandUndecoded q =>
    obtain rfl : q = p := Option.some.inj hp
    have hq := (Laws.FitsAFrame.commandUndecoded q hw q rfl).2
    exact ⟨hq, takenInOrder_commandUndecoded hq⟩
  | echo tag ps => cases hp; exact ⟨rfl, (commandRow_echo tag ps).takenInOrder⟩
  | statusRead tag ps => cases hp; exact ⟨rfl, (commandRow_statusRead tag ps).takenInOrder⟩
  | flagsClear tag ps => cases hp; exact ⟨rfl, (commandRow_flagsClear tag ps).takenInOrder⟩
  | attentionMask tag ps => cases hp; exact ⟨rfl, (commandRow_attentionMask tag ps).takenInOrder⟩
  | tableWrite tag ps => cases hp; exact ⟨rfl, (commandRow_tableWrite tag ps).takenInOrder⟩
  | tableRead tag ps => cases hp; exact ⟨rfl, (commandRow_tableRead tag ps).takenInOrder⟩
  | tablesCommit tag ps => cases hp; exact ⟨rfl, (commandRow_tablesCommit tag ps).takenInOrder⟩
  | commitCancel tag ps => cases hp; exact ⟨rfl, (commandRow_commitCancel tag ps).takenInOrder⟩
  | mapGuard tag ps => cases hp; exact ⟨rfl, (commandRow_mapGuard tag ps).takenInOrder⟩
  | egressMode tag ps => cases hp; exact ⟨rfl, (commandRow_egressMode tag ps).takenInOrder⟩
  | arrivalsFlush tag ps => cases hp; exact ⟨rfl, (commandRow_arrivalsFlush tag ps).takenInOrder⟩
  | reportInterval tag ps => cases hp; exact ⟨rfl, (commandRow_reportInterval tag ps).takenInOrder⟩
  | pickerRestart tag ps => cases hp; exact ⟨rfl, (commandRow_pickerRestart tag ps).takenInOrder⟩
  | partReset tag ps => cases hp; exact ⟨rfl, (commandRow_partReset tag ps).takenInOrder⟩
  | _ => cases hp

/-- A command of fixed form with parameters of another length is MALFORMED (R160, step 6). -/
theorem exec_wrongLength {c : Instr} {n : Nat} {tag code : Byte} {ps : List Byte} {s : State} (ready : Ready c s)
    (h : ps.length ≠ n)
    (hrow : (c, n, code) ∈ [(Instr.statusRead tag ps, 1, 0x02), (.flagsClear tag ps, 4, 0x03),
      (.attentionMask tag ps, 3, 0x04), (.tableRead tag ps, 4, 0x11), (.tablesCommit tag ps, 2, 0x12),
      (.commitCancel tag ps, 0, 0x13), (.mapGuard tag ps, 2, 0x14), (.egressMode tag ps, 1, 0x20),
      (.arrivalsFlush tag ps, 0, 0x21), (.reportInterval tag ps, 2, 0x22), (.pickerRestart tag ps, 0, 0x30),
      (.partReset tag ps, 0, 0x31)]) : exec c s = .next (answered tag code .malformed [] s) := by
  simp only [List.mem_cons, List.not_mem_nil, or_false, Prod.mk.injEq] at hrow
  obtain ⟨rfl, rfl, rfl⟩ | ⟨rfl, rfl, rfl⟩ | ⟨rfl, rfl, rfl⟩ | ⟨rfl, rfl, rfl⟩ | ⟨rfl, rfl, rfl⟩ | ⟨rfl, rfl, rfl⟩ |
    ⟨rfl, rfl, rfl⟩ | ⟨rfl, rfl, rfl⟩ | ⟨rfl, rfl, rfl⟩ | ⟨rfl, rfl, rfl⟩ | ⟨rfl, rfl, rfl⟩ | ⟨rfl, rfl, rfl⟩ := hrow
  · exact (commandRow_statusRead tag ps).exec_malformed ready (readByteUpTo_wrongLength 250 h)
  · exact (commandRow_flagsClear tag ps).exec_malformed ready (readFlagsClear_wrongLength h)
  · exact (commandRow_attentionMask tag ps).exec_malformed ready (readAttentionMask_wrongLength h)
  · exact (commandRow_tableRead tag ps).exec_malformed ready (readTableRead_wrongLength h)
  · exact (commandRow_tablesCommit tag ps).exec_malformed ready (readWordUpTo_wrongLength 600 h)
  · exact (commandRow_commitCancel tag ps).exec_malformed ready (readNone_wrongLength h)
  · exact (commandRow_mapGuard tag ps).exec_malformed ready (readMapGuard_wrongLength h)
  · exact (commandRow_egressMode tag ps).exec_malformed ready (readEgressMode_wrongLength h)
  · exact (commandRow_arrivalsFlush tag ps).exec_malformed ready (readNone_wrongLength h)
  · exact (commandRow_reportInterval tag ps).exec_malformed ready (readWordUpTo_wrongLength 3600 h)
  · exact (commandRow_pickerRestart tag ps).exec_malformed ready (readNone_wrongLength h)
  · exact (commandRow_partReset tag ps).exec_malformed ready (readNone_wrongLength h)

/-- Settles O49: the wrong forms row by row; then for every row its turn, the reset pending and the Reply Queue's room,
and for a payload that names no command how much of it there is. -/
theorem commandsAreJudgedInOrder : Obligations.CommandsAreJudgedInOrder := by
  refine ⟨fun c n tag code ps s ready h hrow => exec_wrongLength ready h hrow, fun c p s hw hp => ?_⟩
  obtain ⟨decodes, taken⟩ := decodes_and_takenInOrder hw hp
  refine ⟨decodes, taken.waits s, taken.discarded s, fun hturn hreset hnil => ?empty, taken.overrun s,
    fun ready tag htag => ?tagAlone, fun ready tag code ps hcode hc => ?unknown⟩
  case empty =>
    subst hnil
    obtain rfl : Instr.commandUndecoded [] = c := decodes
    rw [exec_commandUndecoded rfl hturn, judgeUndecoded_nil (s := frameGone s) hreset]
    rfl
  case tagAlone =>
    subst htag
    obtain rfl : Instr.commandUndecoded [tag] = c := decodes
    obtain ⟨hreset, room, hturn⟩ := ready
    rw [exec_commandUndecoded rfl hturn, judgeUndecoded_tag (s := frameGone s) tag hreset,
      judgeTagged_run (s := frameGone s) hreset room]
    rfl
  case unknown =>
    subst hc hcode
    obtain ⟨hreset, room, hturn⟩ := ready
    rw [exec_commandUndecoded decodes hturn, judgeUndecoded_code (s := frameGone s) tag code ps hreset,
      judgeTagged_run (s := frameGone s) hreset room]
    rfl

end Sys2Proof.Proofs
end

section
/-! PROOFS. ECHO and STATUS_READ, and the status block part by part: where each part of it stands, and what its fields
read as (R163, R164, R180, section 11.4). -/

namespace Sys2Proof.Proofs

open Sys2Proof Sys2Proof.Machine Sys2Proof.Safety

/-! ### Bytes that stand one part behind another -/

/-- Two parts stand together exactly when each stands in its place. -/
theorem standsAt_append_iff {p xs ys : List Byte} {off : Nat} :
    StandsAt p off (xs ++ ys) ↔ StandsAt p off xs ∧ StandsAt p (off + xs.length) ys := by
  rw [StandsAt, StandsAt, StandsAt, List.length_append, List.take_add, List.drop_drop]
  constructor
  · intro h
    have hlen := congrArg List.length h
    simp only [List.length_append, List.length_take, List.length_drop] at hlen
    exact List.append_inj h (by simp only [List.length_take, List.length_drop]; omega)
  · rintro ⟨hx, hy⟩
    rw [hx, hy]

theorem standsAt_cons_cons_iff {p zs : List Byte} {off : Nat} {x y : Byte} :
    StandsAt p off (x :: y :: zs) ↔ StandsAt p off [x] ∧ StandsAt p (off + 1) (y :: zs) :=
  standsAt_append_iff (xs := [x])

/-- Each of the parts of one width stands at its multiple of the width. -/
theorem StandsAt.getElem_flatMap {α : Type} {f : α → List Byte} {width : Nat} (hwidth : ∀ x, (f x).length = width)
    {p : List Byte} {xs : List α} {off i : Nat} (h : StandsAt p off (xs.flatMap f)) (hi : i < xs.length) :
    StandsAt p (off + width * i) (f xs[i]) := by
  induction xs generalizing off i with
  | nil => exact absurd hi (Nat.not_lt_zero i)
  | cons x xs ih =>
    rw [List.flatMap_cons, standsAt_append_iff, hwidth] at h
    obtain ⟨first, others⟩ := h
    cases i with
    | zero => exact first
    | succ i =>
      rw [Nat.mul_succ, Nat.add_comm (width * i), ← Nat.add_assoc]
      exact ih others (Nat.lt_of_succ_lt_succ hi)

/-! ### The parts of the status block (section 11.4) -/

theorem readingBytes_length (d : DetReading) : (readingBytes d).length = 9 := by
  simp [readingBytes]

theorem slotBytes_length (c : Option Context) : (slotBytes c).length = 3 := by
  simp [slotBytes]

theorem detEntries_length (d : PerDet DetReading) : (detEntries d).length = 54 := by
  simp [detEntries, PerDet.toList, readingBytes_length]

theorem slots_flatMap_length (pool : Fin 8 → Option Context) :
    (slots.flatMap (fun i => slotBytes (pool i))).length = 24 := by
  simp [slots, slotBytes_length]

theorem maskBytes_length (m : BitVec 20) : (maskBytes m).length = 3 :=
  beBytes_length 3 m.toNat

theorem counterBytes_length (c : Counters) : (counterBytes c).length = 48 := by
  simp [counterBytes]

/-- The parts of the block stand where section 11.4 places them. -/
theorem standsAt_statusBlock {b : List Byte} {s : State} (h : StandsAt b 0 s.statusBlock) :
    StandsAt b 0 [s.tables.picker.code] ∧
    StandsAt b 1 [match s.asm.phase with | .unsynced => 0 | .aligned _ _ => 1] ∧
    StandsAt b 2 (detEntries s.readings) ∧
    StandsAt b 56 (slots.flatMap (fun i => slotBytes (s.engine.pool.get i))) ∧
    StandsAt b 80 (beBytes 2 s.engine.counter) ∧
    StandsAt b 82 [s.tables.commit.code] ∧
    StandsAt b 83 (beBytes 4 s.tables.commit.remaining) ∧
    StandsAt b 87 [boolByte s.tables.guard.isSome] ∧
    StandsAt b 88 [s.arrivals.mode.code] ∧
    StandsAt b 89 [BitVec.ofNat 8 s.arrivals.records.length] ∧
    StandsAt b 90 [BitVec.ofNat 8 s.watermark] ∧
    StandsAt b 91 (beBytes 2 s.status.interval) ∧
    StandsAt b 93 [BitVec.ofNat 8 (bitsToNat s.conditions)] ∧
    StandsAt b 94 (maskBytes s.status.flags) ∧
    StandsAt b 97 (maskBytes s.status.mask) ∧
    StandsAt b 100 (counterBytes s.status.counters) := by
  simp only [State.statusBlock, standsAt_append_iff, standsAt_cons_cons_iff, List.length_append, List.length_cons,
    List.length_nil, beBytes_length, detEntries_length, slots_flatMap_length, maskBytes_length, and_assoc,
    Nat.reduceAdd] at h
  exact h

theorem statusBlock_length (s : State) : s.statusBlock.length = 148 := by
  simp only [State.statusBlock, List.length_append, List.length_cons, List.length_nil, beBytes_length,
    detEntries_length, slots_flatMap_length, maskBytes_length, counterBytes_length]

/-- At a full reset the block is all zeros (R180). -/
theorem statusBlock_reset : State.reset.statusBlock = List.replicate 148 0 := by
  decide +kernel

theorem statusBlock_resetWith (straps : BitVec 2) (pending : List Instr) :
    (State.resetWith straps pending).statusBlock = State.reset.statusBlock := rfl

/-! ### The fields of a part -/

theorem entriesAt_of_standsAt {p : List Byte} {off : Nat} {d : PerDet DetReading} (h : StandsAt p off (detEntries d)) :
    EntriesAt p off d := by
  have entry : ∀ (i : Nat) (hi : i < 6), EntryAt p (off + 9 * i) (d.toList[i]'hi) := fun i hi =>
    entryAt_of_standsAt (h.getElem_flatMap readingBytes_length hi)
  exact ⟨entry 0 (by decide), entry 1 (by decide), entry 2 (by decide), entry 3 (by decide), entry 4 (by decide),
    entry 5 (by decide)⟩

theorem slots_getElem : ∀ (i : Nat) (h : i < 8), slots[i]'h = ⟨i, h⟩ := by
  decide

/-- A slot's three bytes stand in their place. -/
theorem standsAt_slot {p : List Byte} {off : Nat} {pool : Fin 8 → Option Context}
    (h : StandsAt p off (slots.flatMap (fun i => slotBytes (pool i)))) (i : Fin 8) :
    StandsAt p (off + 3 * i.val) (slotBytes (pool i)) := by
  have hslot := h.getElem_flatMap (fun i => slotBytes_length (pool i)) i.isLt
  rwa [slots_getElem i.val i.isLt] at hslot

/-- A slot's event number, cut to its field. -/
theorem slot_event {p : List Byte} {off : Nat} {c : Option Context} (h : StandsAt p off (slotBytes c)) :
    fieldAt p (off + 1) 2 = (c.map Context.event).getD 0 % 2 ^ 16 := by
  have number := h.fieldAt 1 2 (by rw [slotBytes_length])
  cases c with
  | none => exact number.trans (StandsAt.number rfl)
  | some c => exact number.trans (StandsAt.number rfl)

/-! ### The live conditions (R173) -/

theorem mem_det_all (d : Det) : d ∈ Det.all := by
  cases d <;> decide

theorem ingressStall_iff (s : State) : s.ingressStall = true ↔ ∃ c, (s.asm.stall.get c).awaited = true := by
  simp only [State.ingressStall, Bool.or_eq_true]
  constructor
  · rintro ((h | h) | h)
    exacts [⟨.z, h⟩, ⟨.n, h⟩, ⟨.e, h⟩]
  · rintro ⟨c, h⟩
    cases c with
    | z => exact .inl (.inl h)
    | n => exact .inl (.inr h)
    | e => exact .inr h

theorem anyDetectorOn_iff (s : State) : s.anyDetectorOn = true ↔ ∃ d, (s.array.dets.get d).state = .on := by
  have named : s.array.dets.toList = Det.all.map s.array.dets.get := rfl
  simp [State.anyDetectorOn, named, mem_det_all]

theorem noDetectors_iff (s : State) : s.noDetectors = true ↔ s.tables.picker = .running ∧
    ∀ d : Det, ¬ ((s.bandCfg d.band).enable = true ∧
      (match d.kind with
        | .v => (s.bandCfg d.band).vEnable
        | .h => (s.bandCfg d.band).hEnable) = true) := by
  have runs : s.noDetectors = true ↔ s.tables.picker = .running ∧ ∀ d, ¬ detRuns s.tables.active.band d = true := by
    simp [State.noDetectors, mem_det_all]
  rw [runs]
  exact and_congr_right' (forall_congr' fun d => not_congr (detRuns_iff s d))

theorem commitPending_iff (s : State) : s.commitPending = true ↔ s.tables.commit ≠ .none :=
  decide_eq_true_iff

theorem atWatermark_iff (s : State) :
    s.atWatermark = true ↔ s.tables.valid.rules = true ∧ s.rules.watermark ≤ s.arrivals.records.length := by
  simp [State.atWatermark]

/-! ### ECHO and STATUS_READ (R163, R164) -/

theorem readEcho_admitted {ps : List Byte} (h : ps.length ≤ 250) : readEcho ps = some ps :=
  if_pos h

theorem readEcho_malformed {ps : List Byte} (h : 250 < ps.length) : readEcho ps = none :=
  if_neg (Nat.not_le.mpr h)

theorem readStatusRead_admitted {len : Byte} (h : len.toNat ≤ 250) : readStatusRead [len] = some len.toNat :=
  if_pos h

theorem readStatusRead_malformed {len : Byte} (h : 250 < len.toNat) : readStatusRead [len] = none :=
  if_neg (Nat.not_le.mpr h)

theorem cutBlock_length {n : Nat} (h : n ≤ 250) (block : List Byte) : (cutBlock n block).length = n := by
  simp only [cutBlock, List.length_take, List.length_append, List.length_replicate]
  omega

/-- The block's bytes, and zeros behind its end. -/
theorem cutBlock_getD {n i : Nat} (h : n ≤ 250) (hi : i < n) (block : List Byte) :
    (cutBlock n block).getD i 0 = if i < block.length then block.getD i 0 else 0 := by
  simp only [cutBlock, List.getD_eq_getElem?_getD, List.getElem?_take, if_pos hi]
  split
  case isTrue hin => rw [List.getElem?_append_left hin]
  case isFalse hout =>
    rw [List.getElem?_append_right (Nat.not_lt.mp hout), List.getElem?_replicate, if_pos (by omega), Option.getD_some]

/-- Settles O50: the two commands by their forms, the zeros of the reset, and the block part by part. -/
theorem echoAndStatusReadAnswerTheirData : Obligations.EchoAndStatusReadAnswerTheirData := by
  refine ⟨fun tag len ps s => ⟨fun ready => ⟨fun h => ?echoed, fun h => ?echoMalformed⟩,
    fun ready => ⟨fun h => ?readMalformed, fun h => ?read⟩⟩, fun straps s => ?zeros, fun s => ?layout⟩
  case echoed => exact (commandRow_echo tag ps).exec_run ready (readEcho_admitted h) rfl
  case echoMalformed => exact (commandRow_echo tag ps).exec_malformed ready (readEcho_malformed h)
  case readMalformed => exact (commandRow_statusRead tag _).exec_malformed ready (readStatusRead_malformed h)
  case read =>
    exact ⟨cutBlock len.toNat s.statusBlock,
      (commandRow_statusRead tag _).exec_run ready (readStatusRead_admitted h) rfl,
      cutBlock_length h _, fun i hi => cutBlock_getD h hi _⟩
  case zeros =>
    exact ⟨State.resetWith straps s.pending, rfl, (statusBlock_resetWith straps s.pending).trans statusBlock_reset⟩
  case layout =>
    intro b
    obtain ⟨picker, phase, dets, pool, counter, commit, wait, guard, mode, occupancy, watermark, interval, conditions,
      flags, mask, counters⟩ := standsAt_statusBlock (b := b) (s := s) List.take_length
    have slot := standsAt_slot pool
    have event : ∀ i : Fin 8, fieldAt b (57 + 3 * i.val) 2 = ((s.ctx i).map Context.event).getD 0 % 2 ^ 16 := fun i =>
      Nat.add_right_comm 56 (3 * i.val) 1 ▸ slot_event (slot i)
    refine ⟨statusBlock_length s, ?picker, phase.byte, entriesAt_of_standsAt dets, fun i => ?slot,
      fun fits i c hc hm => ?measure, counter.number, ?commit, ?wait, ?guard, ?mode, occupancy.small,
      ?watermark, interval.number, fun i => ?conditions, flagsAt_of_standsAt flags, flagsAt_of_standsAt mask,
      fun i hi => ?counters⟩
    case picker =>
      rw [picker.byte]
      cases s.tables.picker <;> rfl
    case slot =>
      have fields := And.intro ((slot i).getD (i := 0) (by rw [slotBytes_length]; decide)) (event i)
      cases hc : s.ctx i with
      | none => rwa [hc, show s.engine.pool.get i = none from hc] at fields
      | some c => rwa [hc, show s.engine.pool.get i = some c from hc] at fields
    case measure =>
      have hfits := fits.2.1 i c hc
      rw [ContextFits, hm] at hfits
      rw [event i, hc]
      simp [hfits.1]
    case commit =>
      rw [commit.byte]
      cases s.tables.commit <;> rfl
    case wait =>
      rw [wait.number]
      cases s.tables.commit <;> rfl
    case guard =>
      rw [guard.byte]
      cases s.tables.guard <;> rfl
    case mode =>
      rw [mode.byte]
      cases s.arrivals.mode <;> rfl
    case watermark =>
      rw [watermark.small, State.watermark, apply_ite (· % 2 ^ 8), Nat.zero_mod]
    case conditions =>
      rw [conditions.byte, getLsbD_ofNat_bitsToNat _ (by simp [State.conditions])]
      match i with
      | 0 => exact decide_eq_true_iff
      | 1 => exact decide_eq_true_iff
      | 2 => exact ingressStall_iff s
      | 3 => exact anyDetectorOn_iff s
      | 4 => exact commitPending_iff s
      | 5 => exact atWatermark_iff s
      | 6 => exact Iff.rfl
      | 7 => exact noDetectors_iff s
      | _ + 8 => simp [State.conditions]
    case counters =>
      have number := (counters.getElem_flatMap (beBytes_length 4) hi).number
      rw [List.getD_eq_getElem _ _ hi]
      exact number

end Sys2Proof.Proofs
end

section
/-! PROOFS. The noise report at the timer's expiry (R177 to R179). -/

namespace Sys2Proof.Proofs

open Sys2Proof Sys2Proof.Machine

theorem execNoiseTimerExpiry_of_not_expired {s : State}
    (h : timerExpired (s.status.interval * 1000) s.status.timer = false) : execNoiseTimerExpiry s = .next s :=
  if_neg (Bool.eq_false_iff.mp h)

theorem execNoiseTimerExpiry_of_expired {s : State}
    (h : timerExpired (s.status.interval * 1000) s.status.timer = true) :
    execNoiseTimerExpiry s =
      .next { s with status := { s.status with timer := some 0, slot := some s.noiseReport } } :=
  if_pos h

/-- Settles O53, by whether the timer runs and has reached the interval. -/
theorem noiseReportTakesTheSlot : Obligations.NoiseReportTakesTheSlot := by
  refine fun s => ⟨fun stopped => ?stopped, fun ms running => ⟨fun early => ?early, fun passed => ?expired⟩⟩
  case stopped => exact execNoiseTimerExpiry_of_not_expired (by rw [stopped, timerExpired_none])
  case early =>
    exact execNoiseTimerExpiry_of_not_expired
      (by rw [running, timerExpired_some, decide_eq_false_iff_not]; exact Nat.not_le.mpr early)
  case expired =>
    exact execNoiseTimerExpiry_of_expired ((timerExpired_iff _ _).mpr ⟨ms, running, passed⟩)

end Sys2Proof.Proofs
end

section
/-! PROOFS. Every row of the table has a next state, in which the commands that wait are those that waited before: first
operation by operation, then row by row. -/

namespace Sys2Proof.Proofs

open Sys2Proof Sys2Proof.Machine

/-- The outcome is a next state in which the same commands wait. -/
abbrev KeepsWaiting (s : State) (o : Host.Outcome State Fault Refusal) : Prop :=
  EndsIn (fun t => t.pending = s.pending) o

/-! ### Framing (chapter 1) -/

@[simp] theorem latchIf_pending (s : State) (b : Bool) (f : Flag) : (s.latchIf b f).pending = s.pending := by
  cases b <;> rfl

@[simp] theorem setFramer_pending (p : Port) (f : Framer) (s : State) : (s.setFramer p f).pending = s.pending := by
  cases p <;> rfl

theorem tally_pending (p : Port) (a : Scan) (s : State) : (tally p a s).pending = s.pending := by
  simp only [tally, latchIf_pending, bump_pending, setFramer_pending]

theorem applyScan_pending (p : Port) (a : Scan) (s : State) : (applyScan p a s).pending = s.pending := by
  rw [applyScan_eq, (sameOutsideRouting_routes p a.frames _).pending, tally_pending]

theorem judgeHeld_pending (p : Port) (s : State) : (judgeHeld p s).pending = s.pending := by
  unfold judgeHeld
  split
  · exact applyScan_pending p _ s
  · rfl

theorem takeByte_pending (p : Port) (b : Byte) (s : State) : (takeByte p b s).pending = s.pending :=
  applyScan_pending p _ s

theorem abandonHeld_pending (p : Port) (s : State) : (abandonHeld p s).pending = s.pending := by
  simp only [abandonHeld]
  split
  · simp only [latch_pending, bump_pending, setFramer_pending]
  · simp only [bump_pending, setFramer_pending]

theorem keepsWaiting_rxByte (p : Port) (b : Byte) (stop : StopBit) (was : Bool) (s : State) :
    KeepsWaiting s (execRxByte p b stop was s) := by
  unfold execRxByte
  split
  · refine endsIn_next ?_
    rw [setFramer_pending, takeByte_pending, judgeHeld_pending]
  · exact endsIn_next rfl

theorem keepsWaiting_byteTimeout (p : Port) (s : State) : KeepsWaiting s (execByteTimeout p s) := by
  unfold execByteTimeout
  split
  · exact endsIn_next (abandonHeld_pending p s)
  · exact endsIn_next rfl

/-! ### The transmit lines and the noise timer (R13 to R17, R178) -/

theorem chooseFrame_pending (s : State) : (chooseFrame s).pending = s.pending := by
  unfold chooseFrame
  split <;> rfl

/-- Even the full reset that a departure may bring leaves the commands that wait (R172). -/
theorem recordSent_pending (straps : BitVec 2) (f : TxFrame) (s : State) :
    (recordSent straps f s).pending = s.pending := by
  unfold recordSent
  split
  · rfl
  · split <;> rfl

theorem keepsWaiting_upstreamFrameStart (s : State) : KeepsWaiting s (execUpstreamFrameStart s) := by
  unfold execUpstreamFrameStart
  split <;> exact endsIn_next rfl

theorem keepsWaiting_upstreamFrameSent (s : State) : KeepsWaiting s (execUpstreamFrameSent s) := by
  unfold execUpstreamFrameSent
  split <;> exact endsIn_next rfl

theorem keepsWaiting_egressChoice (s : State) : KeepsWaiting s (execEgressChoice s) := by
  unfold execEgressChoice
  split
  · exact endsIn_next rfl
  · exact endsIn_next (chooseFrame_pending s)

theorem keepsWaiting_egressFrameSent (straps : BitVec 2) (s : State) :
    KeepsWaiting s (execEgressFrameSent straps s) := by
  unfold execEgressFrameSent
  split
  · exact endsIn_next rfl
  · exact endsIn_next (recordSent_pending straps _ _)

theorem keepsWaiting_noiseTimerExpiry (s : State) : KeepsWaiting s (execNoiseTimerExpiry s) := by
  unfold execNoiseTimerExpiry
  split <;> exact endsIn_next rfl

/-! ### The Triad Assembler (chapter 2) -/

theorem longGap_pending (s : State) : (longGap s).pending = s.pending := rfl

theorem judgeAlignment_pending (s : State) : (judgeAlignment s).pending = s.pending := by
  unfold judgeAlignment
  split
  · dsimp only
    split
    · rfl
    · split <;> rfl
  · rfl

theorem overlapCounted_pending (comp : Comp) (start : Nat) (s : State) :
    (overlapCounted comp start s).pending = s.pending := by
  unfold overlapCounted
  split <;> rfl

theorem bridgeCounted_pending (comp : Comp) (start : Nat) (s : State) :
    (bridgeCounted comp start s).pending = s.pending := by
  unfold bridgeCounted
  split <;> rfl

theorem takeUsable_pending (comp : Comp) (start : Nat) (xs : List Sample) (s : State) :
    (takeUsable comp start xs s).pending = s.pending := by
  obtain ⟨c, -, e⟩ | e | ⟨c, -, e⟩ | e := takeUsable_cases comp start xs s <;> rw [e]
  · rw [judgeAlignment_pending, setComp_pending, bridgeCounted_pending, overlapCounted_pending]
  · rw [overlapCounted_pending]
  · rw [judgeAlignment_pending, setComp_pending, longGap_pending, overlapCounted_pending]
  · rw [longGap_pending, overlapCounted_pending]

theorem takeCopy_pending (c : SampleCopy) (s : State) : (takeCopy c s).pending = s.pending := by
  obtain e | e | ⟨stream, e⟩ := takeCopy_cases c s <;> rw [e]
  · rw [longGap_pending, latch_pending]
  · rw [takeUsable_pending, restartStall_pending]

theorem keepsWaiting_sampleCopyTaken (s : State) : KeepsWaiting s (execSampleCopyTaken s) := by
  unfold execSampleCopyTaken
  split
  · exact endsIn_next (takeCopy_pending _ _)
  · exact endsIn_next rfl

theorem keepsWaiting_malformedNoticeTaken (s : State) : KeepsWaiting s (execMalformedNoticeTaken s) := by
  unfold execMalformedNoticeTaken
  split
  · dsimp only
    split <;> exact endsIn_next rfl
  · exact endsIn_next rfl

theorem keepsWaiting_stallTimerExpiry (stream : Comp) (s : State) : KeepsWaiting s (execStallTimerExpiry stream s) := by
  unfold execStallTimerExpiry
  split <;> exact endsIn_next rfl

theorem keepsWaiting_triadIssue (s : State) : KeepsWaiting s (execTriadIssue s) := by
  unfold execTriadIssue
  split <;> exact endsIn_next rfl

/-! ### The picking blocks and the swaps (chapters 3, 4 and 6, section 8.4) -/

theorem bankNotice_pending (k : NoticeKind) (s : State) : (bankNotice k s).pending = s.pending := by
  unfold bankNotice
  split <;> rfl

theorem arrayNotice_pending (k : NoticeKind) (s : State) : (arrayNotice k s).pending = s.pending := by
  unfold arrayNotice
  split <;> rfl

theorem bandReset_pending (mapChanged : Bool) (s : State) : (bandReset mapChanged s).pending = s.pending := by
  cases mapChanged <;> rfl

theorem swapPlain_pending (s : State) : (swapPlain s).pending = s.pending := rfl

theorem swapWithReset_pending (s : State) : (swapWithReset s).pending = s.pending := by
  rw [swapWithReset, bandReset_pending, swapTables_pending]

theorem forcedClosure_pending (cause : Cause) (s : State) : (forcedClosure cause s).pending = s.pending :=
  (sameOutsideEngine_forcedClosure s cause).pending

theorem forcedSwap_pending (s : State) : (forcedSwap s).pending = s.pending := by
  rw [forcedSwap, latch_pending, swapWithReset_pending, forcedClosure_pending]

theorem report_pending (own : Bool) (s : State) : (report own s).pending = s.pending := by
  obtain e | ⟨-, ⟨-, e⟩ | ⟨_, _, -, -, e⟩ | ⟨_, -, -, e⟩⟩ := report_cases own s <;> rw [e]
  · exact swapPlain_pending s
  · exact swapWithReset_pending s
  · exact forcedSwap_pending s

theorem engineTurn_pending (r : Results) (s : State) : (engineTurn r s).pending = s.pending := by
  rw [engineTurn, report_pending, (sameOutsideEngine_takeTriggers r _).pending,
    (sameOutsideEngine_takeContexts r s).pending]

theorem engineNotice_pending (k : NoticeKind) (cause : Cause) (s : State) :
    (engineNotice k cause s).pending = s.pending := by
  unfold engineNotice
  split
  · rfl
  · rw [report_pending, forcedClosure_pending]

theorem keepsWaiting_filterTriad (s : State) : KeepsWaiting s (execFilterTriad s) := by
  unfold execFilterTriad
  split
  · exact endsIn_next (latchIf_pending _ _ _)
  · exact endsIn_next rfl

theorem keepsWaiting_detectorTriad (s : State) : KeepsWaiting s (execDetectorTriad s) := by
  unfold execDetectorTriad
  split
  · exact endsIn_next (latchIf_pending _ _ _)
  · exact endsIn_next rfl

theorem keepsWaiting_engineTriad (s : State) : KeepsWaiting s (execEngineTriad s) := by
  unfold execEngineTriad
  split
  · exact endsIn_next (engineTurn_pending _ _)
  · exact endsIn_next rfl

theorem keepsWaiting_commitWaitExpiry (s : State) : KeepsWaiting s (execCommitWaitExpiry s) := by
  unfold execCommitWaitExpiry
  split
  · split
    · exact endsIn_next rfl
    · split
      · exact endsIn_next (forcedSwap_pending s)
      · exact endsIn_next rfl
  · exact endsIn_next rfl
  · exact endsIn_next rfl
  · exact endsIn_next rfl

/-! ### The commands (chapters 8 and 9) -/

/-- A command row keeps the commands that wait when its run does; MALFORMED changes nothing. -/
theorem keepsWaiting_command {α : Type} (code tag : Byte) (ps : List Byte) (args : Option α)
    {run : α → State → Answer} (hrun : ∀ a u, (run a u).state.pending = u.pending) (s : State) :
    KeepsWaiting s (runCommand code tag ps (withForm args run) s) := by
  have hform : ∀ u, (withForm args run u).state.pending = u.pending := by
    intro u
    cases args with
    | none => rfl
    | some a => exact hrun a u
  obtain e | ⟨u, hu, hcases⟩ := runCommand_cases code tag ps (withForm args run) s
  · exact e ▸ endsIn_next rfl
  · have taken : u.pending = s.pending := by
      obtain rfl | rfl := hu <;> rfl
    obtain ⟨-, e⟩ | ⟨-, e⟩ | ⟨-, e⟩ := hcases <;> rw [e]
    · exact endsIn_next taken
    · exact endsIn_next taken
    · exact endsIn_next ((hform u).trans taken)

theorem judgeTagged_refuse_pending (tag code : Byte) (r : Result) (s : State) :
    (judgeTagged tag code (refuse r) s).pending = s.pending := by
  unfold judgeTagged
  split
  · rfl
  · split <;> rfl

theorem judgeUndecoded_pending (payload : List Byte) (s : State) :
    (judgeUndecoded payload s).pending = s.pending := by
  unfold judgeUndecoded
  split
  · rfl
  · split
    · rfl
    · exact judgeTagged_refuse_pending _ _ _ s
    · exact judgeTagged_refuse_pending _ _ _ s

theorem keepsWaiting_commandUndecoded (payload : List Byte) (s : State) :
    KeepsWaiting s (execCommandUndecoded payload s) := by
  unfold execCommandUndecoded
  split
  · by_cases hturn : s.cmd.inbox = [] ∨ s.cmd.inbox.head? = some payload
    · rw [takeFrame_ready payload s hturn]
      exact endsIn_next (judgeUndecoded_pending payload _)
    · rw [takeFrame_none payload s hturn]
      exact endsIn_next rfl
  · exact endsIn_next rfl

theorem writeTable_state_pending (a : WriteArgs) (s : State) : (writeTable a s).state.pending = s.pending := by
  unfold writeTable
  split
  · rfl
  · split <;> rfl

theorem startCommit_pending (limit : Nat) (s : State) : (startCommit limit s).pending = s.pending := by
  obtain ⟨-, e | e⟩ | e | ⟨-, e | ⟨c, -, e⟩⟩ := startCommit_cases limit s <;> rw [e]
  · exact swapPlain_pending s
  · exact setCommit_pending s _
  · exact swapWithReset_pending s
  · exact forcedSwap_pending s
  · exact setCommit_pending s c

theorem commitTables_state_pending (limit : Nat) (s : State) : (commitTables limit s).state.pending = s.pending := by
  have clamped : (clampShadow s).pending = s.pending := latchIf_pending _ _ _
  unfold commitTables
  split
  · rfl
  · split
    · rfl
    · split
      · rfl
      · dsimp only [done]
        rw [startCommit_pending, clamped]

theorem cancelCommit_state_pending (s : State) : (cancelCommit s).state.pending = s.pending := by
  unfold cancelCommit
  split <;> rfl

theorem guardMap_state_pending (a : GuardArgs) (s : State) : (guardMap a s).state.pending = s.pending := by
  unfold guardMap
  split
  · rfl
  · rfl
  · split <;> rfl
  · rfl

theorem restartPicker_state_pending (s : State) : (restartPicker s).state.pending = s.pending := by
  unfold restartPicker
  split <;> rfl

/-! ### Every row -/

/-- Settles O3, row by row: a full reset takes over the commands that wait, and no other row touches them. -/
theorem everyCommandLetsThePartGoOn : Obligations.EveryCommandLetsThePartGoOn := by
  intro c s
  change KeepsWaiting s (exec c s)
  cases c with
  | fullReset straps => exact endsIn_next rfl
  | rxByte p b stop was => exact keepsWaiting_rxByte p b stop was s
  | frameReceived p => exact endsIn_next (judgeHeld_pending p s)
  | byteTimeout p => exact keepsWaiting_byteTimeout p s
  | sampleCopyTaken => exact keepsWaiting_sampleCopyTaken s
  | malformedNoticeTaken => exact keepsWaiting_malformedNoticeTaken s
  | stallTimerExpiry stream => exact keepsWaiting_stallTimerExpiry stream s
  | triadIssue => exact keepsWaiting_triadIssue s
  | filterTriad => exact keepsWaiting_filterTriad s
  | detectorTriad => exact keepsWaiting_detectorTriad s
  | engineTriad => exact keepsWaiting_engineTriad s
  | gapNoticeFilter => exact endsIn_next (bankNotice_pending _ s)
  | gapNoticeDetector => exact endsIn_next (arrayNotice_pending _ s)
  | gapNoticeEngine => exact endsIn_next (engineNotice_pending _ _ s)
  | restartFilter => exact endsIn_next (bankNotice_pending _ s)
  | restartDetector => exact endsIn_next (arrayNotice_pending _ s)
  | restartEngine => exact endsIn_next (engineNotice_pending _ _ s)
  | commitWaitExpiry => exact keepsWaiting_commitWaitExpiry s
  | noiseTimerExpiry => exact keepsWaiting_noiseTimerExpiry s
  | upstreamFrameStart => exact keepsWaiting_upstreamFrameStart s
  | upstreamFrameSent => exact keepsWaiting_upstreamFrameSent s
  | egressChoice => exact keepsWaiting_egressChoice s
  | egressFrameSent straps => exact keepsWaiting_egressFrameSent straps s
  | commandUndecoded payload => exact keepsWaiting_commandUndecoded payload s
  | tableWrite tag ps => exact keepsWaiting_command _ _ _ _ writeTable_state_pending s
  | tablesCommit tag ps => exact keepsWaiting_command _ _ _ _ commitTables_state_pending s
  | commitCancel tag ps => exact keepsWaiting_command _ _ _ _ (fun _ => cancelCommit_state_pending) s
  | mapGuard tag ps => exact keepsWaiting_command _ _ _ _ guardMap_state_pending s
  | pickerRestart tag ps => exact keepsWaiting_command _ _ _ _ (fun _ => restartPicker_state_pending) s
  | echo tag ps => exact keepsWaiting_command _ _ _ _ (fun _ _ => rfl) s
  | statusRead tag ps => exact keepsWaiting_command _ _ _ _ (fun _ _ => rfl) s
  | flagsClear tag ps => exact keepsWaiting_command _ _ _ _ (fun _ _ => rfl) s
  | attentionMask tag ps => exact keepsWaiting_command _ _ _ _ (fun _ _ => rfl) s
  | tableRead tag ps => exact keepsWaiting_command _ _ _ _ (fun _ _ => rfl) s
  | egressMode tag ps => exact keepsWaiting_command _ _ _ _ (fun _ _ => rfl) s
  | arrivalsFlush tag ps => exact keepsWaiting_command _ _ _ _ (fun _ _ => rfl) s
  | reportInterval tag ps => exact keepsWaiting_command _ _ _ _ (fun _ _ => rfl) s
  | partReset tag ps => exact keepsWaiting_command _ _ _ _ (fun _ _ => rfl) s

end Sys2Proof.Proofs
end
